-- ==== Sys2Proof/Word.lean ====
section
/-! DEFINITION. The word types of the Feistel_cipher_engine (FCE): WORD is 32 bits, unsigned,
arithmetic modulo 2^32 (00_scope.md R6, R9); a byte is 8 bits; a block is two words. -/

namespace Sys2Proof

/-- WORD, 32 bits, arithmetic modulo 2^32 (R6, R9). -/
abbrev Word := BitVec 32

/-- One byte of a buffer, of the key or of the salt (R27 to R29). -/
abbrev Byte := BitVec 8

/-- BLOCK, two WORD halves (left, right) (R6). -/
abbrev Block := Word × Word

end Sys2Proof
end

