-- ==== Sys2Proof/Config.lean ====
section
/-! DEFINITION. What an implementation of the FCE fixes (00_scope.md R7) and the values its spec leaves
open (R8, R47; 93_implementation_defined.md U1 to U5). An open value is an OPAQUE constant: nothing can
evaluate it, so a claim about it holds whatever it is. The first argument of each is the number of the
draw (the counter `State.draws`), so that two draws need not agree. -/

namespace Sys2Proof.Config

/-- BUF_BYTES, the size of each of RXBUF and TXBUF (R7). -/
abbrev bufBytes : Nat := 65536

/-- KEY_MAX (R6). -/
abbrev keyMax : Nat := 56

/-- SALT_MAX (R7). -/
abbrev saltMax : Nat := 56

@[simp] theorem bufBytes_eq : bufBytes = 65536 := rfl

@[simp] theorem keyMax_eq : keyMax = 56 := rfl

@[simp] theorem saltMax_eq : saltMax = 56 := rfl

/-- ID_VALUE, the constant of the ID register (R7, R31). -/
def idValue : Word := 0x46434501

/-- INIT_BUF (R8, R29, R47, U3): `initBuf k a` is the power-on content of the buffer byte at window offset
`a` after the power-on reset whose draw number is `k`. It stays until the byte is written. -/
opaque initBuf : Nat → Nat → Byte

/-- The round keys P after the reset of draw number `k` (R46, R47, U1, U14): unspecified. -/
opaque unspecP : Nat → Vector Word 18

/-- The substitution tables S after the reset of draw number `k` (R46, R47, U1, U14): unspecified. -/
opaque unspecS : Nat → Vector (Vector Word 256) 4

/-- The value of a host read in the BUSY window that R76 leaves unspecified: a fresh draw per read (U4). -/
opaque busyRead : Nat → Word

/-- `abortedByte k a` is what the buffer byte at window offset `a` holds after the soft reset of draw number
`k` aborted a command that writes the byte (R293, U5). -/
opaque abortedByte : Nat → Nat → Byte

end Sys2Proof.Config
end

