-- ==== Sys2Proof/Syntax.lean ====
section
/-! DEFINITION. The commands of the FCE, one constructor for each row of spec/opcode_table.json
(30_encoding.md R93). A command carries no immediate and no operand bit but BSEL (R92). -/

namespace Sys2Proof

/-- BSEL, the buffer a range command acts on: 0 selects RXBUF and 1 selects TXBUF (R91). -/
inductive BufSel where
  | rx
  | tx
deriving DecidableEq, Repr

/-- The 27 commands of R93. The four range commands carry BSEL; no other command has an operand. -/
inductive Instr where
  /-- NOP, R240. -/
  | nop
  /-- KS_INIT, R150. -/
  | ksInit
  /-- KS_INIT_SALT, R151. -/
  | ksInitSalt
  /-- ENC_BLK, R114. -/
  | encBlk
  /-- DEC_BLK, R115. -/
  | decBlk
  /-- ENC_RANGE, R116. -/
  | encRange (b : BufSel)
  /-- DEC_RANGE, R117. -/
  | decRange (b : BufSel)
  /-- CK_WRITE, R224. -/
  | ckWrite (b : BufSel)
  /-- CK_VERIFY, R225. -/
  | ckVerify (b : BufSel)
  /-- TX_CLEAR, R172. -/
  | txClear
  /-- TX_PUT_U8, R173. -/
  | txPutU8
  /-- TX_PUT_U16, R174. -/
  | txPutU16
  /-- TX_PUT_U32, R175. -/
  | txPutU32
  /-- TX_PUT_U64, R176. -/
  | txPutU64
  /-- TX_PUT_F32, R177. -/
  | txPutF32
  /-- TX_PUT_F64, R178. -/
  | txPutF64
  /-- TX_PUT_RAW, R179. -/
  | txPutRaw
  /-- TX_SEAL, R180. -/
  | txSeal
  /-- RX_START, R190. -/
  | rxStart
  /-- RX_GET_U8, R191. -/
  | rxGetU8
  /-- RX_GET_U16, R192. -/
  | rxGetU16
  /-- RX_GET_U32, R193. -/
  | rxGetU32
  /-- RX_GET_U64, R194. -/
  | rxGetU64
  /-- RX_GET_F32, R195. -/
  | rxGetF32
  /-- RX_GET_F64, R196. -/
  | rxGetF64
  /-- RX_GET_RAW, R197. -/
  | rxGetRaw
  /-- RX_FRAME, R199. -/
  | rxFrame
deriving DecidableEq, Repr

end Sys2Proof
end

