-- ==== Sys2Proof/Machine/State.lean ====
section
/-! DEFINITION. The state of the FCE as plain data (10_state.md R20), what can stop a step, and the state
after a power-on reset (R46). The last three fields of `State` are the MODEL's own: the turns of the two
agents that are still to come (00_scope.md R12), the data the host port last returned, and the number of
draws made. -/

namespace Sys2Proof.Machine

/-- A reason for the machine to stop. There is NONE: no rule of the spec stops the FCE. "No behaviour of the
FCE is `stuck`" (93_implementation_defined.md §1), errors are result codes (60_exceptions.md R254), and a
host access the FCE does not support only sets BUSERR (20_memory.md R67). Nothing raises a fault, so no
claim can lean on one: safe. -/
inductive Fault where
deriving DecidableEq, Repr

/-- A reason to give an instruction no meaning. -/
inductive Refusal where
  /-- The instruction has no meaning in `exec` yet. Raised by nothing now: every arm has its meaning. Safe. -/
  | notModelled (mnemonic : String)
deriving DecidableEq, Repr

/-- The result codes of 60_exceptions.md R250. The codes 0x0C to 0xFF are never produced (U6), and this type
has no value for them. -/
inductive ErrCode where
  | ok
  | invalidKeySize
  | invalidBlockAlignment
  | shortRead
  | checksumMismatch
  | illegalCommand
  | keyNotValid
  | invalidSaltSize
  | rangeError
  | txOverflow
  | invalidChecksumLength
  | frameLengthError
deriving DecidableEq, Repr

/-- The CipherState: the round keys P and the substitution tables S (R22, R23). -/
structure CipherState where
  /-- P[0..17] (R22). -/
  p : Vector Word 18
  /-- S[0..3][0..255] (R23). -/
  s : Vector (Vector Word 256) 4
deriving DecidableEq, Repr

/-- RXBUF and TXBUF, keyed by window offset: RXBUF[i] at 0x10000 + i and TXBUF[i] at 0x20000 + i
(20_memory.md R60, R61). `cells` lists the bytes written since the power-on reset, addresses strictly
rising. An unlisted address holds NO value (none); reading it gives the open INIT_BUF of the power-on reset
whose draw number is `epoch` (R47, U3). -/
structure Memory where
  epoch : Nat
  cells : List Host.Cell
deriving DecidableEq, Repr

/-- The widths of a host access (R60). -/
inductive Width where
  | w8
  | w16
  | w32
deriving DecidableEq, Repr

/-- One access of the HOST to the 18-bit window (R60): the width, the byte offset and, for a write, the data
(its low 8, 16 or 32 bits count, R65). -/
inductive HostAccess where
  | read (w : Width) (off : BitVec 18)
  | write (w : Width) (off : BitVec 18) (data : Word)
deriving DecidableEq, Repr

/-- Whose step comes next (00_scope.md R12): a HOST access, the ENGINE's completion, or an assertion of the
reset input (70_reset_and_hazards.md R290). -/
inductive Turn where
  | host (a : HostAccess)
  | engine
  | resetInput
deriving DecidableEq, Repr

/-- The state tuple of R20. IRQ is the function `State.irq` of two of its fields (R45), the registers ID,
CTRL and STATUS are views of others (`Machine/Flags.lean`). -/
structure State where
  /-- P and S (R22, R23). -/
  cipher : CipherState
  /-- KEY_VALID, STATUS[1] (R25). -/
  keyValid : Bool
  /-- KEY[0..55] (R27). -/
  key : Vector Byte 56
  /-- KEYLEN (R35). -/
  keyLen : BitVec 8
  /-- SALT[0..55] (R28). -/
  salt : Vector Byte 56
  /-- SALTLEN (R36). -/
  saltLen : BitVec 8
  /-- RXBUF and TXBUF (R29). -/
  mem : Memory
  /-- CTRL.IE (R32). -/
  ie : Bool
  /-- STATUS.BUSY (R33). -/
  busy : Bool
  /-- STATUS.DONE (R33). -/
  done : Bool
  /-- STATUS.DROP (R33). -/
  drop : Bool
  /-- STATUS.BUSERR (R33). -/
  busErr : Bool
  /-- STATUS.ERR (R33, R250). -/
  err : ErrCode
  /-- CMDW, the command word last latched (R34, R43). -/
  cmdw : Word
  /-- ROFF (R37). -/
  roff : BitVec 16
  /-- RLEN (R37). -/
  rlen : BitVec 17
  /-- DATA_LO (R38). -/
  dataLo : Word
  /-- DATA_HI (R38). -/
  dataHi : Word
  /-- TX_LEN (R39). -/
  txLen : BitVec 17
  /-- RX_POS (R40). -/
  rxPos : BitVec 17
  /-- RX_LEN (R41). -/
  rxLen : BitVec 17
  /-- CKSUM (R42). -/
  cksum : Word
  /-- MODEL: the turns still to come, in order. When none is left the ENGINE completes a latched command
  (weak fairness, 44_control.md R244), and an idle FCE waits. -/
  agenda : List Turn
  /-- MODEL: what the host port returned for the last host read, zero-extended. -/
  rdata : Word
  /-- MODEL: how many draws of unspecified values were made; the number of the next draw. -/
  draws : Nat
deriving DecidableEq, Repr

/-- The power-on reset column of R46. P, S and the buffers are unspecified (R47): they are the open values
of draw number `k`. No turn is pending. -/
def State.powerOn (k : Nat) : State where
  cipher := ⟨Config.unspecP k, Config.unspecS k⟩
  keyValid := false
  key := Vector.replicate 56 0
  keyLen := 0
  salt := Vector.replicate 56 0
  saltLen := 0
  mem := ⟨k, []⟩
  ie := false
  busy := false
  done := false
  drop := false
  busErr := false
  err := .ok
  cmdw := 0
  roff := 0
  rlen := 0
  dataLo := 0
  dataHi := 0
  txLen := 0
  rxPos := 0
  rxLen := 0
  cksum := 0
  agenda := []
  rdata := 0
  draws := k + 1

/-- The machine right after its first power-on reset (R46, R290). -/
def State.reset : State := State.powerOn 0

end Sys2Proof.Machine
end

