-- ==== Sys2Proof/Machine/Ops.lean ====
section
/-! DEFINITION. The named operations over the buffers and the registers, and the completion of a command.
The FCE takes no exception and returns from none (60_exceptions.md R262, R263): "the nearest event is
completion", which `State.complete` is, once, for success and for every error (44_control.md R242). -/

namespace Sys2Proof.Machine

/-! ### The buffer memory -/

/-- The window offset of byte 0 of a buffer (20_memory.md R60). -/
def bufBase : BufSel → Nat
  | .rx => 0x10000
  | .tx => 0x20000

/-- The window offset of BUF(b)[i] (R61, 00_scope.md R11). -/
def bufAddr (b : BufSel) (i : Nat) : Nat := bufBase b + i

/-- The window offsets of RXBUF and TXBUF together (R60). -/
def inBuffers (a : Nat) : Bool := decide (0x10000 ≤ a) && decide (a < 0x30000)

/-- The byte a list of cells holds at an address; none where the address is unlisted. -/
def lookupCell : List Host.Cell → Nat → Option Byte
  | [], _ => none
  | (a', b) :: rest, a => if a = a' then some b else lookupCell rest a

/-- Put a byte into a list of cells whose addresses rise, keeping them rising. -/
def insertCell : List Host.Cell → Nat → Byte → List Host.Cell
  | [], a, b => [(a, b)]
  | (a', b') :: rest, a, b =>
    if a < a' then (a, b) :: (a', b') :: rest
    else if a = a' then (a, b) :: rest
    else (a', b') :: insertCell rest a b

/-- Every address of the list lies above `lo`, and the addresses rise. -/
def risingAbove : Nat → List Host.Cell → Bool
  | _, [] => true
  | lo, (a, _) :: rest => decide (lo < a) && risingAbove a rest

/-- The canonical form of the buffer memory: addresses strictly rising, all of them buffer bytes. An
unlisted address holds no value, so no entry can equal what it holds. -/
def Memory.wf (m : Memory) : Bool :=
  risingAbove 0xFFFF m.cells && m.cells.all (fun c => inBuffers c.1)

/-- What the memory holds at an address: none for a byte not written since the power-on reset. -/
def Memory.peek (m : Memory) (a : Nat) : Option Byte := lookupCell m.cells a

/-- Read one byte. A byte not written since the power-on reset reads as the open INIT_BUF (R29, R47). -/
def Memory.read (m : Memory) (a : Nat) : Byte := (m.peek a).getD (Config.initBuf m.epoch a)

/-- Write one byte. -/
def Memory.write (m : Memory) (a : Nat) (b : Byte) : Memory :=
  { m with cells := insertCell m.cells a b }

/-- `sum over k in 0..n-1 of B[a + k] << 8k` (R65; 42_framer.md R186; le16 and le32 of 00_scope.md R10). -/
def Memory.readLE (m : Memory) (a : Nat) : Nat → Nat
  | 0 => 0
  | n + 1 => (m.read a).toNat + 256 * m.readLE (a + 1) n

/-- Write the low `n` bytes of `v` at `a` upwards, least-significant byte first (R65; R171; put_le16 and
put_le32 of R10). -/
def Memory.writeLE (m : Memory) (a : Nat) : Nat → Nat → Memory
  | 0, _ => m
  | n + 1, v => (m.write a (BitVec.ofNat 8 v)).writeLE (a + 1) n (v / 256)

/-- le32 of R10. -/
def Memory.le32 (m : Memory) (a : Nat) : Word := BitVec.ofNat 32 (m.readLE a 4)

/-- put_le32 of R10. -/
def Memory.putLe32 (m : Memory) (a : Nat) (v : Word) : Memory := m.writeLE a 4 v.toNat

/-- The `n` bytes from `a` on become unspecified: each is the open value of draw number `k`
(70_reset_and_hazards.md R293, U5). -/
def Memory.smear (m : Memory) (k a : Nat) : Nat → Memory
  | 0 => m
  | n + 1 => (m.write a (Config.abortedByte k a)).smear k (a + 1) n

/-- Put `f` of its block in the place of each of `n` successive 8-byte blocks from `a` on, in ascending
address order (40_cipher.md R116, R119). -/
def Memory.mapBlocks (f : Block → Block) : Nat → Nat → Memory → Memory
  | _, 0, m => m
  | a, n + 1, m =>
    let out := f (m.le32 a, m.le32 (a + 4))
    mapBlocks f (a + 8) n ((m.putLe32 a out.1).putLe32 (a + 4) out.2)

/-- `x` XORed with the `n` successive words from `a` on (43_checksum.md R222). -/
def Memory.foldWords (m : Memory) : Nat → Nat → Word → Word
  | _, 0, x => x
  | a, n + 1, x => m.foldWords (a + 4) n (x ^^^ m.le32 a)

/-! ### Registers -/

/-- BLOCK and RX_GET results: write DATA_LO and DATA_HI (10_state.md R38). -/
def State.setData (s : State) (lo hi : Word) : State := { s with dataLo := lo, dataHi := hi }

/-- Write the buffer memory (R29). -/
def State.setMem (s : State) (m : Memory) : State := { s with mem := m }

/-- Write TX_LEN (R39). -/
def State.setTxLen (s : State) (n : Nat) : State := { s with txLen := BitVec.ofNat 17 n }

/-- Write RX_POS (R40). -/
def State.setRxPos (s : State) (n : Nat) : State := { s with rxPos := BitVec.ofNat 17 n }

/-- Write ROFF and RLEN (R37). -/
def State.setRange (s : State) (off n : Nat) : State :=
  { s with roff := BitVec.ofNat 16 off, rlen := BitVec.ofNat 17 n }

/-- Write CKSUM (R42). -/
def State.setCksum (s : State) (x : Word) : State := { s with cksum := x }

/-- A new CipherState takes the place of the old one and becomes valid (41_key_schedule.md R153, R25). -/
def State.installCipher (s : State) (c : CipherState) : State := { s with cipher := c, keyValid := true }

/-- A failed key schedule clears KEY_VALID and leaves P and S as they are (R155). -/
def State.invalidateKey (s : State) : State := { s with keyValid := false }

/-- `zeroize()` of R154. -/
def State.zeroize (s : State) : State :=
  { s with key := Vector.replicate 56 0, keyLen := 0, salt := Vector.replicate 56 0, saltLen := 0 }

/-! ### Completion -/

/-- The end of a completion: the result code, BUSY cleared, DONE set (44_control.md R242). `ok` of R11 is
`complete .ok`, `raise E` of R11 is `complete E`. -/
def State.complete (s : State) (e : ErrCode) : State := { s with err := e, busy := false, done := true }

/-! ### Latching a command and taking turns -/

/-- Issue: latch the command word and set BUSY; DONE and ERR keep their values (R241). -/
def State.issue (s : State) (w : Word) : State := { s with cmdw := w, busy := true }

/-- The turns still to come (00_scope.md R12). -/
def State.setAgenda (s : State) (turns : List Turn) : State := { s with agenda := turns }

/-- What the host port returns for a read. -/
def State.setRdata (s : State) (v : Word) : State := { s with rdata := v }

/-- One draw of an unspecified value was made. -/
def State.countDraw (s : State) : State := { s with draws := s.draws + 1 }

/-- A bus error sets BUSERR (20_memory.md R67). -/
def State.setBusErr (s : State) : State := { s with busErr := true }

/-- A write dropped in the BUSY window sets DROP (R74). -/
def State.setDrop (s : State) : State := { s with drop := true }

/-- Let the ENGINE's turn come next, where another turn would. -/
def engineFirst : List Turn → List Turn
  | [] => []
  | t :: rest => .engine :: t :: rest

/-- `s` with the word `w` issued and the ENGINE's turn next: R241 and then R242. -/
def State.placeCommand (s : State) (w : Word) : State := (s.issue w).setAgenda (engineFirst s.agenda)

end Sys2Proof.Machine
end

