-- ==== Sys2Proof/Machine/Operands.lean ====
section
/-! DEFINITION. The operand forms of 30_encoding.md R92. Every operand is a register or a buffer byte, read
at completion (00_scope.md R11), with no sign extension and no scaling. -/

namespace Sys2Proof.Machine

/-- Form "block": (l, r) = (DATA_LO, DATA_HI). -/
def blockOperand (s : State) : Block := (s.dataLo, s.dataHi)

/-- Form "value": the low 8n bits of {DATA_HI, DATA_LO} for an n-byte put. -/
def valueOperand (s : State) (n : Nat) : Nat := (s.dataHi ++ s.dataLo).toNat % 2 ^ (8 * n)

/-- Form "range", the offset: ROFF[15:0]. -/
def rangeOff (s : State) : Nat := s.roff.toNat

/-- Forms "range" and "count", the length: RLEN[16:0]. -/
def rangeLen (s : State) : Nat := s.rlen.toNat

/-- The range's bytes lie in its buffer: off + n is at most 65536 (40_cipher.md R118, 43_checksum.md R221). -/
def rangeFits (s : State) : Bool := decide (rangeOff s + rangeLen s ≤ Config.bufBytes)

/-- The window offset of the first byte of the range in BUF(b). -/
def rangeAddr (b : BufSel) (s : State) : Nat := bufAddr b (rangeOff s)

/-- Form "key": KEY[0 .. KEYLEN-1]. -/
def keyOperand (s : State) : List Byte := s.key.toList.take s.keyLen.toNat

/-- Form "key + salt", the salt: SALT[0 .. SALTLEN-1]. -/
def saltOperand (s : State) : List Byte := s.salt.toList.take s.saltLen.toNat

/-- KEYLEN lies in [KEY_MIN, KEY_MAX] = [1, 56] (41_key_schedule.md R150). -/
def keyLenLegal (s : State) : Bool :=
  decide (1 ≤ s.keyLen.toNat) && decide (s.keyLen.toNat ≤ Config.keyMax)

/-- SALTLEN is at most SALT_MAX = 56 (R151). -/
def saltLenLegal (s : State) : Bool := decide (s.saltLen.toNat ≤ Config.saltMax)

/-- Form "stream", the reader: n bytes remain between RX_POS and RX_LEN (42_framer.md R186). -/
def streamHas (s : State) (n : Nat) : Bool := decide (s.rxPos.toNat + n ≤ s.rxLen.toNat)

/-- Form "stream", the writer: n more bytes fit into TXBUF (R171). -/
def writerHasRoom (s : State) (n : Nat) : Bool := decide (s.txLen.toNat + n ≤ Config.bufBytes)

/-- The window offset of the next byte the reader consumes, RXBUF[RX_POS]. -/
def readerAddr (s : State) : Nat := bufAddr .rx s.rxPos.toNat

/-- The window offset of the next byte the writer appends, TXBUF[TX_LEN]. -/
def writerAddr (s : State) : Nat := bufAddr .tx s.txLen.toNat

end Sys2Proof.Machine
end

