-- ==== Sys2Proof/Machine/Checksum.lean ====
section
/-! DEFINITION. The XOR-fold checksum (43_checksum.md): CK_WRITE and CK_VERIFY. -/

namespace Sys2Proof.Machine

/-- `fold(b, off, n)` of R222: the XOR of every complete word of the range but the final one. -/
def foldRange (b : BufSel) (s : State) : Word := s.mem.foldWords (rangeAddr b s) (rangeLen s / 4 - 1) 0

/-- `slot(b, off, n)` of R222: the window offset of the range's final word. -/
def slotAddr (b : BufSel) (s : State) : Nat := rangeAddr b s + rangeLen s - 4

/-- CK_WRITE after the checks of R221: the fold goes into the slot and into CKSUM (R224). -/
def ckWrite (b : BufSel) (s : State) : State :=
  if rangeLen s = 0 ∨ rangeLen s % 4 ≠ 0 then s.complete .invalidChecksumLength
  else if !rangeFits s then s.complete .rangeError
  else ((s.setMem (s.mem.putLe32 (slotAddr b s) (foldRange b s))).setCksum (foldRange b s)).complete .ok

/-- CK_VERIFY after the checks of R221: CKSUM takes the fold, and the slot is compared with it (R225). -/
def ckVerify (b : BufSel) (s : State) : State :=
  if rangeLen s = 0 ∨ rangeLen s % 4 ≠ 0 then s.complete .invalidChecksumLength
  else if !rangeFits s then s.complete .rangeError
  else if foldRange b s ≠ s.mem.le32 (slotAddr b s) then
    (s.setCksum (foldRange b s)).complete .checksumMismatch
  else (s.setCksum (foldRange b s)).complete .ok

/-- CK_WRITE (R224). -/
def execCkWrite (b : BufSel) (s : State) : Host.Outcome State Fault Refusal := .next (ckWrite b s)

/-- CK_VERIFY (R225). -/
def execCkVerify (b : BufSel) (s : State) : Host.Outcome State Fault Refusal := .next (ckVerify b s)

end Sys2Proof.Machine
end

