-- ==== Sys2Proof/Machine/Cipher.lean ====
section
/-! DEFINITION. The cipher engine (40_cipher.md): the round function, the word-level transforms, and the
commands ENC_BLK, DEC_BLK, ENC_RANGE and DEC_RANGE. -/

namespace Sys2Proof.Machine

/-- One entry of a substitution table: S[t][b] (R23). -/
def CipherState.sbox (c : CipherState) (t : Fin 4) (b : Byte) : Word := (c.s.get t).get b.toFin

/-- The round function F (R110): the bytes of x are taken most-significant first. -/
def CipherState.f (c : CipherState) (x : Word) : Word :=
  ((c.sbox 0 (x.extractLsb' 24 8) + c.sbox 1 (x.extractLsb' 16 8)) ^^^ c.sbox 2 (x.extractLsb' 8 8)) +
    c.sbox 3 (x.extractLsb' 0 8)

/-- Two rounds: the first updates right from left with P[k.1], the second left from right with P[k.2]
(R111, R112). -/
def CipherState.roundPair (c : CipherState) (lr : Block) (k : Fin 18 × Fin 18) : Block :=
  let r := lr.2 ^^^ c.f lr.1 ^^^ c.p.get k.1
  (lr.1 ^^^ c.f r ^^^ c.p.get k.2, r)

/-- The round keys of ENC's sixteen rounds, in order (R111). -/
def encRounds : List (Fin 18 × Fin 18) :=
  [(1, 2), (3, 4), (5, 6), (7, 8), (9, 10), (11, 12), (13, 14), (15, 16)]

/-- The round keys of DEC's sixteen rounds, in order (R112). -/
def decRounds : List (Fin 18 × Fin 18) :=
  [(16, 15), (14, 13), (12, 11), (10, 9), (8, 7), (6, 5), (4, 3), (2, 1)]

/-- ENC(l, r) of R111: whitening with P[0], sixteen rounds, P[17] into the half that becomes the new left,
and the final swap. -/
def CipherState.enc (c : CipherState) (lr : Block) : Block :=
  let x := encRounds.foldl c.roundPair (lr.1 ^^^ c.p.get 0, lr.2)
  (x.2 ^^^ c.p.get 17, x.1)

/-- DEC(l, r) of R112: the round keys in reverse. -/
def CipherState.dec (c : CipherState) (lr : Block) : Block :=
  let x := decRounds.foldl c.roundPair (lr.1 ^^^ c.p.get 17, lr.2)
  (x.2 ^^^ c.p.get 0, x.1)

/-- ENC_BLK and DEC_BLK with their transform: the key guard of R113, then the block in DATA_LO and DATA_HI
(R114, R115). -/
def cryptBlock (f : Block → Block) (s : State) : State :=
  if s.keyValid then
    (s.setData (f (blockOperand s)).1 (f (blockOperand s)).2).complete .ok
  else s.complete .keyNotValid

/-- ENC_RANGE and DEC_RANGE with their transform: the key guard of R113, the checks of R118 in their order,
then every block of the range in place (R116, R117). -/
def cryptRange (f : Block → Block) (b : BufSel) (s : State) : State :=
  if !s.keyValid then s.complete .keyNotValid
  else if rangeLen s = 0 ∨ rangeLen s % 8 ≠ 0 then s.complete .invalidBlockAlignment
  else if !rangeFits s then s.complete .rangeError
  else (s.setMem (s.mem.mapBlocks f (rangeAddr b s) (rangeLen s / 8))).complete .ok

/-- ENC_BLK (R114). -/
def execEncBlk (s : State) : Host.Outcome State Fault Refusal := .next (cryptBlock s.cipher.enc s)

/-- DEC_BLK (R115). -/
def execDecBlk (s : State) : Host.Outcome State Fault Refusal := .next (cryptBlock s.cipher.dec s)

/-- ENC_RANGE (R116). -/
def execEncRange (b : BufSel) (s : State) : Host.Outcome State Fault Refusal :=
  .next (cryptRange s.cipher.enc b s)

/-- DEC_RANGE (R117). -/
def execDecRange (b : BufSel) (s : State) : Host.Outcome State Fault Refusal :=
  .next (cryptRange s.cipher.dec b s)

end Sys2Proof.Machine
end

