-- ==== Sys2Proof/Machine/Control.lean ====
section
/-! DEFINITION. The control family (44_control.md): NOP. Issue, completion and the illegal command of the same
file are `State.issue` and `State.complete` (Ops.lean) and `engineTurn` (Turns.lean). -/

namespace Sys2Proof.Machine

/-- NOP (R240): complete with no effect but the result code. -/
def execNop (s : State) : Host.Outcome State Fault Refusal := .next (s.complete .ok)

end Sys2Proof.Machine
end

