-- ==== Sys2Proof/Machine/Framer.lean ====
section
/-! DEFINITION. The packet framer (42_framer.md): the writer commands TX_* and the reader commands RX_*. A
float is its bit pattern, moved unchanged (R181). -/

namespace Sys2Proof.Machine

/-! ### Writer -/

/-- `append(n, v)` of R171: all `n` bytes, or TX_OVERFLOW and nothing. -/
def appendValue (n v : Nat) (s : State) : State :=
  if writerHasRoom s n then
    ((s.setMem (s.mem.writeLE (writerAddr s) n v)).setTxLen (s.txLen.toNat + n)).complete .ok
  else s.complete .txOverflow

/-- TX_CLEAR (R172): only the length; the bytes of TXBUF stay. -/
def execTxClear (s : State) : Host.Outcome State Fault Refusal := .next ((s.setTxLen 0).complete .ok)

/-- TX_PUT_U8 (R173). -/
def execTxPutU8 (s : State) : Host.Outcome State Fault Refusal := .next (appendValue 1 (valueOperand s 1) s)

/-- TX_PUT_U16 (R174). -/
def execTxPutU16 (s : State) : Host.Outcome State Fault Refusal := .next (appendValue 2 (valueOperand s 2) s)

/-- TX_PUT_U32 (R175). -/
def execTxPutU32 (s : State) : Host.Outcome State Fault Refusal := .next (appendValue 4 (valueOperand s 4) s)

/-- TX_PUT_U64 (R176). -/
def execTxPutU64 (s : State) : Host.Outcome State Fault Refusal := .next (appendValue 8 (valueOperand s 8) s)

/-- TX_PUT_F32 (R177): the 32-bit pattern in DATA_LO. -/
def execTxPutF32 (s : State) : Host.Outcome State Fault Refusal := .next (appendValue 4 (valueOperand s 4) s)

/-- TX_PUT_F64 (R178): the 64-bit pattern in DATA_HI and DATA_LO. -/
def execTxPutF64 (s : State) : Host.Outcome State Fault Refusal := .next (appendValue 8 (valueOperand s 8) s)

/-- TX_PUT_RAW (R179): commit RLEN bytes the host has placed; no byte is written. -/
def txPutRaw (s : State) : State :=
  if writerHasRoom s (rangeLen s) then (s.setTxLen (s.txLen.toNat + rangeLen s)).complete .ok
  else s.complete .txOverflow

/-- TX_PUT_RAW (R179). -/
def execTxPutRaw (s : State) : Host.Outcome State Fault Refusal := .next (txPutRaw s)

/-- TX_LEN fits the frame's 2-byte length, which counts itself (R180). -/
def sealable (s : State) : Bool := decide (2 ≤ s.txLen.toNat) && decide (s.txLen.toNat ≤ 65535)

/-- TX_SEAL (R180): TX_LEN, little-endian, into TX[0..1]. -/
def txSeal (s : State) : State :=
  if sealable s then (s.setMem (s.mem.writeLE (bufAddr .tx 0) 2 s.txLen.toNat)).complete .ok
  else s.complete .frameLengthError

/-- TX_SEAL (R180). -/
def execTxSeal (s : State) : Host.Outcome State Fault Refusal := .next (txSeal s)

/-! ### Reader -/

/-- The value `take(n)` of R186 returns: the next `n` bytes of the stream, little-endian. -/
def takenValue (s : State) (n : Nat) : Nat := s.mem.readLE (readerAddr s) n

/-- `take(n)` of R186 and its result in DATA_LO and DATA_HI, the low and the high word of the zero-extended
value (R191 to R196). On SHORT_READ, RX_POS, DATA_LO and DATA_HI stay. -/
def getValue (n : Nat) (s : State) : State :=
  if streamHas s n then
    ((s.setRxPos (s.rxPos.toNat + n)).setData (BitVec.ofNat 32 (takenValue s n))
      (BitVec.ofNat 32 (takenValue s n / 2 ^ 32))).complete .ok
  else s.complete .shortRead

/-- RX_START (R190): a new stream begins at RXBUF[0]. -/
def execRxStart (s : State) : Host.Outcome State Fault Refusal := .next ((s.setRxPos 0).complete .ok)

/-- RX_GET_U8 (R191). -/
def execRxGetU8 (s : State) : Host.Outcome State Fault Refusal := .next (getValue 1 s)

/-- RX_GET_U16 (R192). -/
def execRxGetU16 (s : State) : Host.Outcome State Fault Refusal := .next (getValue 2 s)

/-- RX_GET_U32 (R193). -/
def execRxGetU32 (s : State) : Host.Outcome State Fault Refusal := .next (getValue 4 s)

/-- RX_GET_U64 (R194). -/
def execRxGetU64 (s : State) : Host.Outcome State Fault Refusal := .next (getValue 8 s)

/-- RX_GET_F32 (R195): the value's bit pattern. -/
def execRxGetF32 (s : State) : Host.Outcome State Fault Refusal := .next (getValue 4 s)

/-- RX_GET_F64 (R196): the value's bit pattern. -/
def execRxGetF64 (s : State) : Host.Outcome State Fault Refusal := .next (getValue 8 s)

/-- RX_GET_RAW (R197): RLEN bytes are consumed, and DATA_LO says where they start in RXBUF. -/
def rxGetRaw (s : State) : State :=
  if streamHas s (rangeLen s) then
    ((s.setData (BitVec.ofNat 32 s.rxPos.toNat) 0).setRxPos (s.rxPos.toNat + rangeLen s)).complete .ok
  else s.complete .shortRead

/-- RX_GET_RAW (R197). -/
def execRxGetRaw (s : State) : Host.Outcome State Fault Refusal := .next (rxGetRaw s)

/-- The frame length L = le16(RXBUF, RX_POS) (R199). -/
def frameLength (s : State) : Nat := s.mem.readLE (readerAddr s) 2

/-- RX_FRAME after the header is read and L reported (R199): the frame is dropped, is not all there yet, or
is accepted with its payload as the range. The order of the checks is the source's (60_exceptions.md R255). -/
def acceptFrame (p len : Nat) (s : State) : State :=
  if len < 2 then (s.setRxPos (p + 2)).complete .invalidBlockAlignment
  else if s.rxLen.toNat < p + len then s.complete .shortRead
  else if len - 2 = 0 ∨ (len - 2) % 8 ≠ 0 then (s.setRxPos (p + len)).complete .invalidBlockAlignment
  else ((s.setRange (p + 2) (len - 2)).setRxPos (p + len)).complete .ok

/-- RX_FRAME (R199). -/
def rxFrame (s : State) : State :=
  if streamHas s 2 then
    acceptFrame s.rxPos.toNat (frameLength s) (s.setData (BitVec.ofNat 32 (frameLength s)) 0)
  else s.complete .shortRead

/-- RX_FRAME (R199). -/
def execRxFrame (s : State) : Host.Outcome State Fault Refusal := .next (rxFrame s)

end Sys2Proof.Machine
end

