-- ==== Sys2Proof/Machine/KeySchedule.lean ====
section
/-! DEFINITION. The key schedule builder (41_key_schedule.md): the key and salt word streams, the schedule
algorithm, and the commands KS_INIT and KS_INIT_SALT. -/

namespace Sys2Proof.Machine

/-- Draw `n` bytes cyclically from `m` at the byte cursor `j`, shifting each into `w` from the right; the
word and the cursor after (R141). -/
def drawBytes (m : List Byte) : Nat → Nat → Word → Word × Nat
  | 0, j, w => (w, j)
  | n + 1, j, w => drawBytes m n ((j + 1) % m.length) ((w <<< 8) ||| (m.getD j 0).setWidth 32)

/-- `keyword()` of R141 and `saltword()` of R142: the next big-endian word of the byte stream, and its
cursor after. A word may straddle the wrap. -/
def cyclicWord (m : List Byte) (j : Nat) : Word × Nat := drawBytes m 4 j 0

/-- XOR the next key word into each round key of the list, in order (R143, the seeding loop). -/
def seedKeys (key : List Byte) : List (Fin 18) → Nat → Vector Word 18 → Vector Word 18
  | [], _, p => p
  | i :: rest, j, p =>
    let w := cyclicWord key j
    seedKeys key rest w.2 (p.set i (p.get i ^^^ w.1))

/-- What runs through the schedule: the partly updated CipherState, the running block and the salt cursor
j_s (R43, R143). It does not survive the command. -/
structure Running where
  cipher : CipherState
  block : Block
  js : Nat
deriving DecidableEq, Repr

/-- The pair of state words one block encryption fills (R143, R144): P[2i], P[2i+1] or S[t][2i], S[t][2i+1].
Every index lies in its table. -/
inductive Slot where
  | p (i : Fin 9)
  | s (t : Fin 4) (i : Fin 128)
deriving DecidableEq, Repr

/-- The salted mixing of R145: the left half takes the first of the next two salt words, the right half the
second. An empty salt mixes nothing in (R143, R146). -/
def mixSalt (salt : List Byte) (x : Running) : Running :=
  if salt.isEmpty then x
  else
    let a := cyclicWord salt x.js
    let b := cyclicWord salt a.2
    { x with block := (x.block.1 ^^^ a.1, x.block.2 ^^^ b.1), js := b.2 }

/-- Put a block into a slot, the left half at the even index and the right half at the odd one (R143). -/
def CipherState.putSlot (c : CipherState) (b : Block) : Slot → CipherState
  | .p i => { c with p := (c.p.set (2 * i.val) b.1).set (2 * i.val + 1) b.2 }
  | .s t i =>
    { c with s := c.s.set t (((c.s.get t).set (2 * i.val) b.1).set (2 * i.val + 1) b.2) }

/-- One block encryption of the schedule: mix the salt in, encrypt the running block with the CipherState as
it stands, and fill the slot with it (R143, 40_cipher.md R121). -/
def fillSlot (salt : List Byte) (x : Running) (slot : Slot) : Running :=
  let y := mixSalt salt x
  let b := y.cipher.enc y.block
  { y with cipher := y.cipher.putSlot b slot, block := b }

/-- The slots in their fill order: the round keys, then S[0], S[1], S[2], S[3] (R144). -/
def fillOrder : List Slot :=
  (List.finRange 9).map .p ++ (List.finRange 4).flatMap (fun t => (List.finRange 128).map (.s t))

/-- KS(key, salt) of R143. It starts from the constants of R160 and the all-zero running block, and reads
nothing of an earlier CipherState (R152). Irreducible: no proof should run it by accident. -/
@[irreducible] def keySchedule (key salt : List Byte) : CipherState :=
  let seeded : CipherState := { initCipher with p := seedKeys key (List.finRange 18) 0 initCipher.p }
  (fillOrder.foldl (fillSlot salt) ⟨seeded, (0, 0), 0⟩).cipher

/-- A failed key schedule: KEY_VALID cleared, P and S kept, key and salt zeroed, the error raised (R155). -/
def failKeySchedule (e : ErrCode) (s : State) : State := (s.invalidateKey.zeroize).complete e

/-- A successful key schedule: the new CipherState replaces the old one, key and salt zeroed (R153, R154). -/
def installKeySchedule (c : CipherState) (s : State) : State := ((s.installCipher c).zeroize).complete .ok

/-- KS_INIT (R150). SALT and SALTLEN are ignored and still zeroed. -/
def ksInit (s : State) : State :=
  if !keyLenLegal s then failKeySchedule .invalidKeySize s
  else installKeySchedule (keySchedule (keyOperand s) []) s

/-- KS_INIT_SALT (R151): the key length is checked before the salt length. -/
def ksInitSalt (s : State) : State :=
  if !keyLenLegal s then failKeySchedule .invalidKeySize s
  else if !saltLenLegal s then failKeySchedule .invalidSaltSize s
  else installKeySchedule (keySchedule (keyOperand s) (saltOperand s)) s

/-- KS_INIT (R150). -/
def execKsInit (s : State) : Host.Outcome State Fault Refusal := .next (ksInit s)

/-- KS_INIT_SALT (R151). -/
def execKsInitSalt (s : State) : Host.Outcome State Fault Refusal := .next (ksInitSalt s)

end Sys2Proof.Machine
end

