-- ==== Sys2Proof/Machine/Dispatch.lean ====
section
/-! DEFINITION. What the ENGINE performs for each command, with its completion (44_control.md R242). -/

namespace Sys2Proof.Machine

/-- One arm per command of 30_encoding.md R93. -/
def exec (i : Instr) (s : State) : Host.Outcome State Fault Refusal :=
  match i with
  | .nop => Sys2Proof.Machine.execNop s
  | .ksInit => Sys2Proof.Machine.execKsInit s
  | .ksInitSalt => Sys2Proof.Machine.execKsInitSalt s
  | .encBlk => Sys2Proof.Machine.execEncBlk s
  | .decBlk => Sys2Proof.Machine.execDecBlk s
  | .encRange b => Sys2Proof.Machine.execEncRange b s
  | .decRange b => Sys2Proof.Machine.execDecRange b s
  | .ckWrite b => Sys2Proof.Machine.execCkWrite b s
  | .ckVerify b => Sys2Proof.Machine.execCkVerify b s
  | .txClear => Sys2Proof.Machine.execTxClear s
  | .txPutU8 => Sys2Proof.Machine.execTxPutU8 s
  | .txPutU16 => Sys2Proof.Machine.execTxPutU16 s
  | .txPutU32 => Sys2Proof.Machine.execTxPutU32 s
  | .txPutU64 => Sys2Proof.Machine.execTxPutU64 s
  | .txPutF32 => Sys2Proof.Machine.execTxPutF32 s
  | .txPutF64 => Sys2Proof.Machine.execTxPutF64 s
  | .txPutRaw => Sys2Proof.Machine.execTxPutRaw s
  | .txSeal => Sys2Proof.Machine.execTxSeal s
  | .rxStart => Sys2Proof.Machine.execRxStart s
  | .rxGetU8 => Sys2Proof.Machine.execRxGetU8 s
  | .rxGetU16 => Sys2Proof.Machine.execRxGetU16 s
  | .rxGetU32 => Sys2Proof.Machine.execRxGetU32 s
  | .rxGetU64 => Sys2Proof.Machine.execRxGetU64 s
  | .rxGetF32 => Sys2Proof.Machine.execRxGetF32 s
  | .rxGetF64 => Sys2Proof.Machine.execRxGetF64 s
  | .rxGetRaw => Sys2Proof.Machine.execRxGetRaw s
  | .rxFrame => Sys2Proof.Machine.execRxFrame s

end Sys2Proof.Machine
end

