-- ==== Sys2Proof/WellFormed.lean ====
section
/-! DEFINITION. Well-formedness of a command word of format C (30_encoding.md R90): the negation of the
three conditions of R94, one check each. An `Instr` has no untyped operand, so every `Instr` is well
formed; the checks act on the words a host may write. -/

namespace Sys2Proof

/-- OPC, bits [7:0] of a command word (R90). -/
def wordOpc (w : Word) : Byte := w.extractLsb' 0 8

/-- BSEL, bit [8] of a command word (R90). -/
def wordBsel (w : Word) : Bool := w.getLsbD 8

/-- RSV, bits [31:9] of a command word (R90). -/
def wordRsv (w : Word) : BitVec 23 := w.extractLsb' 9 23

/-- The operation codes of the four range commands (R91, R94 item 3). -/
def rangeOpcodes : List Byte := [0x22, 0x23, 0x30, 0x31]

/-- The operation codes R93 assigns. -/
def assignedOpcodes : List Byte :=
  [0x00, 0x10, 0x11, 0x20, 0x21, 0x22, 0x23, 0x30, 0x31] ++
  [0x40, 0x41, 0x42, 0x43, 0x44, 0x45, 0x46, 0x47, 0x48] ++
  [0x50, 0x51, 0x52, 0x53, 0x54, 0x55, 0x56, 0x57, 0x58]

/-- R94 item 1 does not hold: the reserved bits are 0. -/
def rsvZero (w : Word) : Bool := wordRsv w == 0

/-- R94 item 2 does not hold: the operation code is assigned. -/
def opcAssigned (w : Word) : Bool := assignedOpcodes.contains (wordOpc w)

/-- R94 item 3 does not hold: BSEL is 1 on range commands only. -/
def bselAllowed (w : Word) : Bool := !wordBsel w || rangeOpcodes.contains (wordOpc w)

/-- A command word that none of R94's three conditions makes illegal. -/
def legalWord (w : Word) : Bool := rsvZero w && opcAssigned w && bselAllowed w

/-- Well-formedness of an instruction: BSEL is the only operand (R92), its type has exactly the two
values R91 gives it, and so there is nothing left to check. -/
def Instr.wellFormed (i : Instr) : Bool :=
  match i with
  | .nop | .ksInit | .ksInitSalt | .encBlk | .decBlk => true
  | .encRange .rx | .encRange .tx | .decRange .rx | .decRange .tx => true
  | .ckWrite .rx | .ckWrite .tx | .ckVerify .rx | .ckVerify .tx => true
  | .txClear | .txPutU8 | .txPutU16 | .txPutU32 | .txPutU64 | .txPutF32 | .txPutF64 => true
  | .txPutRaw | .txSeal => true
  | .rxStart | .rxGetU8 | .rxGetU16 | .rxGetU32 | .rxGetU64 | .rxGetF32 | .rxGetF64 => true
  | .rxGetRaw | .rxFrame => true

end Sys2Proof
end

