-- ==== Sys2Proof/Decode.lean ====
section
/-! DEFINITION. Decoding of command words (30_encoding.md R94, R96) and, after it, their encoding (R90,
R93), the byte forms of both (the host port is little-endian, 20_memory.md R65), and the assembler form of
a command (R98). -/

namespace Sys2Proof

/-- Why a word is no command. The first three are R94's items 1, 2 and 3; the engine reports each as
ILLEGAL_COMMAND (R243). -/
inductive DecodeError where
  /-- Fewer than the four bytes of a command word (R90 has one length). -/
  | truncated
  /-- R94 item 1: RSV is not 0. -/
  | reservedBits
  /-- R94 item 2: OPC is not assigned. -/
  | unassignedOpcode
  /-- R94 item 3: BSEL is 1 on a command that is no range command. -/
  | bselNotAllowed
deriving DecidableEq, Repr

/-- The buffer that a BSEL bit selects (R91). -/
def bufSelOf (b : Bool) : BufSel := if b then .tx else .rx

/-- The range commands of R93, by operation code. -/
def rangeCommand (opc : Byte) (b : BufSel) : Option Instr :=
  if opc = 0x22 then some (.encRange b)
  else if opc = 0x23 then some (.decRange b)
  else if opc = 0x30 then some (.ckWrite b)
  else if opc = 0x31 then some (.ckVerify b)
  else none

/-- The rows of R93 that match one word, by operation code. -/
def plainCommands : List (Byte × Instr) :=
  [(0x00, .nop), (0x10, .ksInit), (0x11, .ksInitSalt), (0x20, .encBlk), (0x21, .decBlk),
   (0x40, .txClear), (0x41, .txPutU8), (0x42, .txPutU16), (0x43, .txPutU32), (0x44, .txPutU64),
   (0x45, .txPutF32), (0x46, .txPutF64), (0x47, .txPutRaw), (0x48, .txSeal),
   (0x50, .rxStart), (0x51, .rxGetU8), (0x52, .rxGetU16), (0x53, .rxGetU32), (0x54, .rxGetU64),
   (0x55, .rxGetF32), (0x56, .rxGetF64), (0x57, .rxGetRaw), (0x58, .rxFrame)]

/-- The command of an operation code that takes no BSEL (R93). -/
def plainCommand (opc : Byte) : Option Instr := plainCommands.lookup opc

/-- R96: decode is a total function from 32-bit words to a command or a named illegality. -/
def decodeWord (w : Word) : Except DecodeError Instr :=
  if wordRsv w ≠ 0 then .error .reservedBits
  else match rangeCommand (wordOpc w) (bufSelOf (wordBsel w)) with
    | some i => .ok i
    | none =>
      if wordBsel w then .error .bselNotAllowed
      else match plainCommand (wordOpc w) with
        | some i => .ok i
        | none => .error .unassignedOpcode

/-- A word from its four bytes, least-significant byte first (R65). -/
def wordOfBytes (b0 b1 b2 b3 : Byte) : Word := b3 ++ b2 ++ b1 ++ b0

/-- The four bytes of a word, least-significant byte first (R65). -/
def bytesOfWord (w : Word) : List Byte :=
  [w.extractLsb' 0 8, w.extractLsb' 8 8, w.extractLsb' 16 8, w.extractLsb' 24 8]

/-- Decode the command at the front of a byte list: always exactly four bytes (R97). -/
def decodeBytes : List Byte → Except DecodeError (Instr × List Byte)
  | b0 :: b1 :: b2 :: b3 :: rest =>
    match decodeWord (wordOfBytes b0 b1 b2 b3) with
    | .ok i => .ok (i, rest)
    | .error e => .error e
  | _ => .error .truncated

/-- The instruction the decoder reads from the low `nbits` bits of `w`, numbered as
spec/opcode_table.json numbers them; the bits above are 0. -/
def decodeTableWord (nbits w : Nat) : Option Instr :=
  match decodeBytes (bytesOfWord (BitVec.ofNat 32 (w % 2 ^ nbits))) with
  | .ok (i, _) => some i
  | .error _ => none

/-- The BSEL bit of a buffer (R91). -/
def bselBit : BufSel → BitVec 1
  | .rx => 0
  | .tx => 1

/-- The word of format C from its fields, RSV being 0 (R90). -/
def packWord (opc : Byte) (bsel : BitVec 1) : Word := (0 : BitVec 23) ++ bsel ++ opc

/-- The word of an instruction (R93). -/
def encodeWord : Instr → Word
  | .nop => packWord 0x00 0
  | .ksInit => packWord 0x10 0
  | .ksInitSalt => packWord 0x11 0
  | .encBlk => packWord 0x20 0
  | .decBlk => packWord 0x21 0
  | .encRange b => packWord 0x22 (bselBit b)
  | .decRange b => packWord 0x23 (bselBit b)
  | .ckWrite b => packWord 0x30 (bselBit b)
  | .ckVerify b => packWord 0x31 (bselBit b)
  | .txClear => packWord 0x40 0
  | .txPutU8 => packWord 0x41 0
  | .txPutU16 => packWord 0x42 0
  | .txPutU32 => packWord 0x43 0
  | .txPutU64 => packWord 0x44 0
  | .txPutF32 => packWord 0x45 0
  | .txPutF64 => packWord 0x46 0
  | .txPutRaw => packWord 0x47 0
  | .txSeal => packWord 0x48 0
  | .rxStart => packWord 0x50 0
  | .rxGetU8 => packWord 0x51 0
  | .rxGetU16 => packWord 0x52 0
  | .rxGetU32 => packWord 0x53 0
  | .rxGetU64 => packWord 0x54 0
  | .rxGetF32 => packWord 0x55 0
  | .rxGetF64 => packWord 0x56 0
  | .rxGetRaw => packWord 0x57 0
  | .rxFrame => packWord 0x58 0

/-- The words of an instruction: every command is one 32-bit word (R97). -/
def encode (i : Instr) : List Word := [encodeWord i]

/-- The bytes of an instruction, as the little-endian host port carries them (R65). -/
def encodeBytes (i : Instr) : List Byte := bytesOfWord (encodeWord i)

/-- The mnemonic of a command (R93, R98). -/
def Instr.mnemonic : Instr → String
  | .nop => "NOP"
  | .ksInit => "KS_INIT"
  | .ksInitSalt => "KS_INIT_SALT"
  | .encBlk => "ENC_BLK"
  | .decBlk => "DEC_BLK"
  | .encRange _ => "ENC_RANGE"
  | .decRange _ => "DEC_RANGE"
  | .ckWrite _ => "CK_WRITE"
  | .ckVerify _ => "CK_VERIFY"
  | .txClear => "TX_CLEAR"
  | .txPutU8 => "TX_PUT_U8"
  | .txPutU16 => "TX_PUT_U16"
  | .txPutU32 => "TX_PUT_U32"
  | .txPutU64 => "TX_PUT_U64"
  | .txPutF32 => "TX_PUT_F32"
  | .txPutF64 => "TX_PUT_F64"
  | .txPutRaw => "TX_PUT_RAW"
  | .txSeal => "TX_SEAL"
  | .rxStart => "RX_START"
  | .rxGetU8 => "RX_GET_U8"
  | .rxGetU16 => "RX_GET_U16"
  | .rxGetU32 => "RX_GET_U32"
  | .rxGetU64 => "RX_GET_U64"
  | .rxGetF32 => "RX_GET_F32"
  | .rxGetF64 => "RX_GET_F64"
  | .rxGetRaw => "RX_GET_RAW"
  | .rxFrame => "RX_FRAME"

/-- The operand of a command as R98 writes it. -/
def Instr.operandText : Instr → Option String
  | .encRange b | .decRange b | .ckWrite b | .ckVerify b =>
    match b with
    | .rx => some "rx"
    | .tx => some "tx"
  | _ => none

/-- A command as one line of R98: its mnemonic, and for a range command its operand. -/
def Instr.line (i : Instr) : String :=
  match i.operandText with
  | some o => i.mnemonic ++ " " ++ o
  | none => i.mnemonic

end Sys2Proof
end

