-- ==== Sys2Proof/Machine/Flags.lean ====
section
/-! DEFINITION. The status flags of the FCE: it has no condition codes, "its status flags are the STATUS
bits" (10_state.md R44). The code of each result, the words software reads, the W1C rule and the IRQ line. -/

namespace Sys2Proof.Machine

/-- The value of STATUS.ERR for each result (60_exceptions.md R250). -/
def ErrCode.code : ErrCode → Byte
  | .ok => 0x00
  | .invalidKeySize => 0x01
  | .invalidBlockAlignment => 0x02
  | .shortRead => 0x03
  | .checksumMismatch => 0x04
  | .illegalCommand => 0x05
  | .keyNotValid => 0x06
  | .invalidSaltSize => 0x07
  | .rangeError => 0x08
  | .txOverflow => 0x09
  | .invalidChecksumLength => 0x0A
  | .frameLengthError => 0x0B

/-- The STATUS register as the host reads it; bits [7:5] and [31:16] read 0 (R30, R33). -/
def State.statusWord (s : State) : Word :=
  (0 : BitVec 16) ++ s.err.code ++ (0 : BitVec 3) ++ BitVec.ofBool s.busErr ++ BitVec.ofBool s.drop ++
    BitVec.ofBool s.done ++ BitVec.ofBool s.keyValid ++ BitVec.ofBool s.busy

/-- The CTRL register as the host reads it: IE in bit 0, SRST reads 0 (R30, R32). -/
def State.ctrlWord (s : State) : Word := (0 : BitVec 31) ++ BitVec.ofBool s.ie

/-- A host write to STATUS clears DONE, DROP and BUSERR where bits 2, 3 and 4 are 1 (R33, R79). -/
def State.clearFlags (s : State) (w : Word) : State :=
  { s with
    done := s.done && !w.getLsbD 2
    drop := s.drop && !w.getLsbD 3
    busErr := s.busErr && !w.getLsbD 4 }

/-- CTRL.IE takes bit 0 of a host write to CTRL (R32). -/
def State.setIe (s : State) (w : Word) : State := { s with ie := w.getLsbD 0 }

/-- The level output IRQ = STATUS.DONE & CTRL.IE (R45, 60_exceptions.md R260). -/
def State.irq (s : State) : Bool := s.done && s.ie

end Sys2Proof.Machine
end

