-- ==== Sys2Proof/Machine/Reset.lean ====
section
/-! DEFINITION. Reset after the first one (70_reset_and_hazards.md §1): the reset input, and the soft reset
with what it leaves of a running command. -/

namespace Sys2Proof.Machine

/-- The command latched and not completed, if it is one (R293). -/
def runningCommand (s : State) : Option Instr :=
  if s.busy then (decodeWord s.cmdw).toOption else none

/-- A range of blocks that ENC_RANGE or DEC_RANGE would work on without an error (40_cipher.md R113, R118). -/
def cryptRangeRuns (s : State) : Bool :=
  s.keyValid && decide (rangeLen s ≠ 0) && decide (rangeLen s % 8 = 0) && rangeFits s

/-- A range of words that CK_WRITE would work on without an error (43_checksum.md R221). -/
def checksumRuns (s : State) : Bool :=
  decide (rangeLen s ≠ 0) && decide (rangeLen s % 4 = 0) && rangeFits s

/-- The bytes TX_PUT of `n` bytes writes: none when it would raise TX_OVERFLOW (42_framer.md R171). -/
def putBytes (n : Nat) (s : State) : Nat × Nat := (writerAddr s, if writerHasRoom s n then n else 0)

/-- The bytes a range cipher command writes: none when it would raise an error. -/
def cryptBytes (b : BufSel) (s : State) : Nat × Nat :=
  (rangeAddr b s, if cryptRangeRuns s then rangeLen s else 0)

/-- The buffer bytes a command writes, as a window offset and a count (R293's list). A command that would
raise an error writes none (44_control.md R245). -/
def bytesWritten (i : Instr) (s : State) : Nat × Nat :=
  match i with
  | .encRange b => cryptBytes b s
  | .decRange b => cryptBytes b s
  | .ckWrite b => (slotAddr b s, if checksumRuns s then 4 else 0)
  | .txPutU8 => putBytes 1 s
  | .txPutU16 => putBytes 2 s
  | .txPutU32 => putBytes 4 s
  | .txPutU64 => putBytes 8 s
  | .txPutF32 => putBytes 4 s
  | .txPutF64 => putBytes 8 s
  | .txSeal => (bufAddr .tx 0, if sealable s then 2 else 0)
  | .nop | .ksInit | .ksInitSalt | .encBlk | .decBlk | .ckVerify _ | .txClear | .txPutRaw => (0, 0)
  | .rxStart | .rxGetU8 | .rxGetU16 | .rxGetU32 | .rxGetU64 | .rxGetF32 | .rxGetF64 => (0, 0)
  | .rxGetRaw | .rxFrame => (0, 0)

/-- The bytes a soft reset makes unspecified: those the running command writes (R293). -/
def abortedBytes (s : State) : Nat × Nat :=
  match runningCommand s with
  | some i => bytesWritten i s
  | none => (0, 0)

/-- The buffers after a soft reset: kept, but for the bytes of R293, which are draws (R46). -/
def abortedMem (s : State) : Memory := s.mem.smear s.draws (abortedBytes s).1 (abortedBytes s).2

/-- The soft reset column of 10_state.md R46, by a write of `w` to CTRL (R292): as a power-on reset, but
that the buffers are kept and IE takes bit 0 of `w`. The aborted command reports nothing (R293, R256). -/
def softReset (w : Word) (s : State) : State :=
  { State.powerOn s.draws with
    mem := abortedMem s
    ie := w.getLsbD 0
    agenda := s.agenda
    rdata := s.rdata }

/-- An assertion of the reset input (R290): the power-on reset column of R46, with fresh draws. The turns to
come are the outside world's and stay. -/
def resetInput (s : State) : State := (State.powerOn s.draws).setAgenda s.agenda

end Sys2Proof.Machine
end

