-- ==== Sys2Proof/Machine/HostPort.lean ====
section
/-! DEFINITION. The HOST's accesses to the 18-bit window (20_memory.md): the address map, the register map
(10_state.md R30), bus errors, the BUSY window, and the side effects of writes (R70). -/

namespace Sys2Proof.Machine

/-- The registers of R30. -/
inductive Reg where
  | id
  | ctrl
  | status
  | cmd
  | keyLen
  | saltLen
  | roff
  | rlen
  | dataLo
  | dataHi
  | txLen
  | rxPos
  | rxLen
  | cksum
  | reserved
deriving DecidableEq, Repr

/-- The regions of R60. -/
inductive Region where
  | register (r : Reg)
  | keyWindow (i : Nat)
  | saltWindow (i : Nat)
  | buffers
  | reserved
deriving DecidableEq, Repr

/-- The register at a byte offset of the register region (R30). -/
def regAt (a : Nat) : Reg :=
  match a / 4 with
  | 0 => .id
  | 1 => .ctrl
  | 2 => .status
  | 3 => .cmd
  | 4 => .keyLen
  | 5 => .saltLen
  | 6 => .roff
  | 7 => .rlen
  | 8 => .dataLo
  | 9 => .dataHi
  | 10 => .txLen
  | 11 => .rxPos
  | 12 => .rxLen
  | 13 => .cksum
  | _ => .reserved

/-- The address map of R60. -/
def regionAt (a : Nat) : Region :=
  if a < 0x40 then .register (regAt a)
  else if a < 0x78 then .keyWindow (a - 0x40)
  else if a < 0x80 then .reserved
  else if a < 0xB8 then .saltWindow (a - 0x80)
  else if a < 0x10000 then .reserved
  else if a < 0x30000 then .buffers
  else .reserved

/-- The bytes of a width (R65). -/
def Width.bytes : Width → Nat
  | .w8 => 1
  | .w16 => 2
  | .w32 => 4

/-- The bus errors of R67: a width other than 32 bits in the register region (R66), or a misaligned access. -/
def busError (w : Width) (a : Nat) : Bool :=
  (decide (a < 0x40) && decide (w ≠ .w32)) || decide (a % w.bytes ≠ 0)

/-! ### Reads -/

/-- The value of a register (R30 to R42). -/
def readReg (r : Reg) (s : State) : Word :=
  match r with
  | .id => Config.idValue
  | .ctrl => s.ctrlWord
  | .status => s.statusWord
  | .cmd => s.cmdw
  | .keyLen => s.keyLen.setWidth 32
  | .saltLen => s.saltLen.setWidth 32
  | .roff => s.roff.setWidth 32
  | .rlen => s.rlen.setWidth 32
  | .dataLo => s.dataLo
  | .dataHi => s.dataHi
  | .txLen => s.txLen.setWidth 32
  | .rxPos => s.rxPos.setWidth 32
  | .rxLen => s.rxLen.setWidth 32
  | .cksum => s.cksum
  | .reserved => 0

/-- What an idle FCE returns for a read that is no bus error: KEY, SALT and reserved offsets read 0 (R61 to
R63, R65). -/
def windowRead (w : Width) (a : Nat) (s : State) : Word :=
  match regionAt a with
  | .register r => readReg r s
  | .buffers => BitVec.ofNat 32 (s.mem.readLE a w.bytes)
  | .keyWindow _ | .saltWindow _ | .reserved => 0

/-- The places whose reads keep their defined value in the BUSY window (R76). -/
def steadyInBusy : Region → Bool
  | .register .id | .register .ctrl | .register .status | .register .cmd | .register .reserved => true
  | .keyWindow _ | .saltWindow _ | .reserved => true
  | .buffers => false
  | .register .keyLen | .register .saltLen | .register .roff | .register .rlen => false
  | .register .dataLo | .register .dataHi | .register .txLen | .register .rxPos => false
  | .register .rxLen | .register .cksum => false

/-- An open value of a read of width `w` in the BUSY window, draw number `k` (R76, U4). -/
def busyValue (w : Width) (k : Nat) : Word :=
  BitVec.ofNat 32 ((Config.busyRead k).toNat % 2 ^ (8 * w.bytes))

/-- A host read (R65, R67, R76). It changes no state of the FCE but BUSERR on a bus error. -/
def hostRead (w : Width) (a : Nat) (s : State) : State :=
  if busError w a then (s.setRdata 0).setBusErr
  else if s.busy && !steadyInBusy (regionAt a) then (s.setRdata (busyValue w s.draws)).countDraw
  else s.setRdata (windowRead w a s)

/-! ### Writes -/

/-- Put the low `n` bytes of `v` into a byte window from index `i` on (R62, R65). -/
def putWindow (i : Nat) : Nat → Nat → Vector Byte 56 → Vector Byte 56
  | 0, _, k => k
  | n + 1, v, k => putWindow (i + 1) n (v / 256) (k.setIfInBounds i (BitVec.ofNat 8 v))

/-- A write to CTRL (R32): with bit 1 set a soft reset (R292), else IE alone. -/
def writeCtrl (d : Word) (s : State) : State := if d.getLsbD 1 then softReset d s else s.setIe d

/-- A write to a register of an idle FCE; a write to a read-only or reserved register is ignored (R30 to
R42, R63, R70). -/
def writeReg (r : Reg) (d : Word) (s : State) : State :=
  match r with
  | .ctrl => writeCtrl d s
  | .status => s.clearFlags d
  | .cmd => s.issue d
  | .keyLen => { s with keyLen := d.setWidth 8 }
  | .saltLen => { s with saltLen := d.setWidth 8 }
  | .roff => { s with roff := d.setWidth 16 }
  | .rlen => { s with rlen := d.setWidth 17 }
  | .dataLo => { s with dataLo := d }
  | .dataHi => { s with dataHi := d }
  | .rxLen => { s with rxLen := BitVec.ofNat 17 (min (d.toNat % 2 ^ 17) Config.bufBytes) }
  | .id | .txLen | .rxPos | .cksum | .reserved => s

/-- A write that is no bus error to an idle FCE (R61 to R63). -/
def windowWrite (w : Width) (a : Nat) (d : Word) (s : State) : State :=
  match regionAt a with
  | .register r => writeReg r d s
  | .keyWindow i => { s with key := putWindow i w.bytes d.toNat s.key }
  | .saltWindow i => { s with salt := putWindow i w.bytes d.toNat s.salt }
  | .buffers => s.setMem (s.mem.writeLE a w.bytes d.toNat)
  | .reserved => s

/-- The two registers a write reaches in the BUSY window (R74). -/
def writableInBusy : Region → Bool
  | .register .ctrl | .register .status => true
  | .register .id | .register .cmd | .register .keyLen | .register .saltLen => false
  | .register .roff | .register .rlen | .register .dataLo | .register .dataHi => false
  | .register .txLen | .register .rxPos | .register .rxLen | .register .cksum => false
  | .register .reserved | .keyWindow _ | .saltWindow _ | .buffers | .reserved => false

/-- A host write: the bus error check first (R67), then the drop rule of the BUSY window (R74). -/
def hostWrite (w : Width) (a : Nat) (d : Word) (s : State) : State :=
  if busError w a then s.setBusErr
  else if s.busy && !writableInBusy (regionAt a) then s.setDrop
  else windowWrite w a d s

/-- One HOST step (00_scope.md R12, 20_memory.md R69). -/
def hostAccess (x : HostAccess) (s : State) : State :=
  match x with
  | .read w off => hostRead w off.toNat s
  | .write w off d => hostWrite w off.toNat d s

end Sys2Proof.Machine
end

