-- ==== Sys2Proof/Machine/Turns.lean ====
section
/-! DEFINITION. The turns of the two agents (00_scope.md R12): the ENGINE's completion (44_control.md R242),
the HOST's accesses and the reset input, in the order the state's agenda gives. -/

namespace Sys2Proof.Machine

/-- The ENGINE's step, enabled exactly when BUSY = 1 (R242): the latched word is decoded and its command
performed, an illegal word completes with ILLEGAL_COMMAND and changes nothing else (R243). -/
def engineTurn (s : State) : Host.Outcome State Fault Refusal :=
  if s.busy then
    match decodeWord s.cmdw with
    | .ok i => exec i s
    | .error _ => .next (s.complete .illegalCommand)
  else .next s

/-- The next turn. With none left, the ENGINE completes a latched command (weak fairness, R244) and an idle
FCE "waits for a command" (70_reset_and_hazards.md R290). -/
def takeTurn (s : State) : Host.Outcome State Fault Refusal :=
  match s.agenda with
  | [] => engineTurn s
  | .engine :: rest => engineTurn (s.setAgenda rest)
  | .host x :: rest => .next (hostAccess x (s.setAgenda rest))
  | .resetInput :: rest => .next (resetInput (s.setAgenda rest))

end Sys2Proof.Machine
end

