-- ==== Sys2Proof/Machine/Step.lean ====
section
/-! DEFINITION. The step, and the state whose next step runs a given command. -/

namespace Sys2Proof.Machine

/-- One step of the machine: the next turn (00_scope.md R12). -/
def step (s : State) : Host.Outcome State Fault Refusal := takeTurn s

/-- The FCE fetches no instruction (20_memory.md R80): a command is the word the HOST's write to CMD latches
(44_control.md R241). This is `s` right after that write, with the ENGINE's completion next. -/
def State.withFetchWord (s : State) (nbits w : Nat) : State :=
  s.placeCommand (BitVec.ofNat 32 (w % 2 ^ nbits))

end Sys2Proof.Machine
end

