-- ==== Sys2Proof/Safety.lean ====
section
/-! DEFINITION. What counts as a good state and a safe run of the FCE, in the terms claims use. -/

namespace Sys2Proof.Machine

/-- The machine's invariant: the buffer memory is in its canonical form, and TX_LEN, RX_POS and RX_LEN lie in
0..65536 (10_state.md R39 to R41). -/
def State.inv (s : State) : Bool :=
  s.mem.wf && decide (s.txLen.toNat ≤ Config.bufBytes) && decide (s.rxPos.toNat ≤ Config.bufBytes) &&
    decide (s.rxLen.toNat ≤ Config.bufBytes)

/-- A CipherState that a successful key schedule builds (R25): from a key of 1 to 56 bytes and a salt of at
most 56 bytes. -/
def CipherState.isBuilt (c : CipherState) : Prop :=
  ∃ key salt : List Byte, 1 ≤ key.length ∧ key.length ≤ Config.keyMax ∧ salt.length ≤ Config.saltMax ∧
    c = keySchedule key salt

/-- While KEY_VALID is 1, P and S hold a CipherState that a key schedule built (R25). -/
def State.keySound (s : State) : Prop := s.keyValid = true → s.cipher.isBuilt

/-- The buffer bytes outside `n` bytes from window offset `a` on read the same in `m'` as in `m`. -/
def Memory.sameOutside (m m' : Memory) (a n : Nat) : Prop :=
  ∀ x, x < a ∨ a + n ≤ x → m'.read x = m.read x

/-- Every byte reads the same in `m'` as in `m`. -/
def Memory.sameBytes (m m' : Memory) : Prop := ∀ x, m'.read x = m.read x

/-- A run of `n` steps that no fault and no refusal ends. -/
def runsFor (n : Nat) (s : State) : Prop := ∃ t, Sys2Proof.core.run n s = .next t

/-- The value of DATA_HI and DATA_LO together: {DATA_HI, DATA_LO} (30_encoding.md R92). -/
def State.data64 (s : State) : BitVec 64 := s.dataHi ++ s.dataLo

/-- Byte `k` of a 64-bit value, byte 0 being the least-significant (00_scope.md R9). -/
def byteOf (v : BitVec 64) (k : Nat) : Byte := v.extractLsb' (8 * k) 8

end Sys2Proof.Machine
end

