-- ==== Sys2Proof/Certificates/Slice0/Obligations.lean ====
section
/-! DEFINITION. The statements about the FCE that the provers settle. In every statement a record update
`{ s with … }` says the frame: every field of the state that it does not name is unchanged. A field written
as `f := t.f` is said by the clauses beside it. -/

open Sys2Proof Sys2Proof.Machine

/-! ### Encoding (30_encoding.md) -/

/-- 30_encoding.md R90, R93, R96: a word decodes to an instruction exactly when it is that instruction's
word, and the decoder takes exactly the four bytes of it from the front of a byte list (R97, 20_memory.md
R65). -/
def Obligations.DecodeInvertsEncode : Prop :=
  ∀ i : Instr, i.wellFormed = true →
    (∀ w : Word, decodeWord w = .ok i ↔ w = encodeWord i) ∧
    (∀ rest : List Byte, decodeBytes (encodeBytes i ++ rest) = .ok (i, rest)) ∧
    encode i = [encodeWord i]

/-- R94 and R243: exactly the words with RSV not 0, with an unassigned OPC, or with BSEL on a command that is
no range command are illegal; an illegal word completes with ILLEGAL_COMMAND and changes nothing else, before
any other check. -/
def Obligations.IllegalWordsComplete : Prop :=
  (∀ w : Word,
    (w.extractLsb' 9 23 ≠ 0 ∨ w.extractLsb' 0 8 ∉ assignedOpcodes ∨
      (w.getLsbD 8 = true ∧ w.extractLsb' 0 8 ∉ ([0x22, 0x23, 0x30, 0x31] : List Byte))) ↔
    ∃ e, decodeWord w = .error e) ∧
  (∀ (s : State) (e : DecodeError), s.busy = true → decodeWord s.cmdw = .error e →
    (s.agenda = [] →
      step s = .next { s with err := .illegalCommand, busy := false, done := true }) ∧
    (∀ rest, s.agenda = .engine :: rest →
      step s = .next { s with agenda := rest, err := .illegalCommand, busy := false, done := true })) ∧
  ErrCode.illegalCommand.code = 0x05

/-- R93: the map has 31 legal words. -/
def Obligations.ThirtyOneLegalWords : Prop :=
  ∃ words : List Word, words.length = 31 ∧ words.Nodup ∧
    ∀ w, w ∈ words ↔ ∃ i, decodeWord w = .ok i

/-- R101: the encoding examples. -/
def Obligations.EncodingExamples : Prop :=
  decodeWord 0x00000010 = .ok .ksInit ∧ decodeWord 0x00000023 = .ok (.decRange .rx) ∧
  decodeWord 0x00000131 = .ok (.ckVerify .tx) ∧
  decodeWord 0x00000141 = .error .bselNotAllowed ∧
  decodeWord 0x00010020 = .error .reservedBits ∧
  decodeWord 0x000000FF = .error .unassignedOpcode

/-! ### Turns, completion and the invariants -/

/-- 44_control.md R242: when the latched word decodes to a well-formed instruction and the ENGINE's turn has
come, the step is `exec` of that instruction; all the step adds is that the turn is used up. -/
def Obligations.StepRunsDecodedCommand : Prop :=
  ∀ (s : State) (i : Instr), i.wellFormed = true → s.busy = true → decodeWord s.cmdw = .ok i →
    (s.agenda = [] → step s = exec i s) ∧
    (∀ rest, s.agenda = .engine :: rest → step s = exec i { s with agenda := rest })

/-- 00_scope.md R12, 20_memory.md R69: a HOST turn is one whole host access, the ENGINE's turn is void while no
command is latched, and an idle FCE with no turn to come waits. -/
def Obligations.TurnsInterleave : Prop :=
  (∀ (s : State) (x : HostAccess) (rest : List Turn), s.agenda = .host x :: rest →
    step s = .next (hostAccess x { s with agenda := rest })) ∧
  (∀ (s : State) (rest : List Turn), s.busy = false → s.agenda = .engine :: rest →
    step s = .next { s with agenda := rest }) ∧
  (∀ s : State, s.busy = false → s.agenda = [] → step s = .next s)

/-- R242, R244, 10_state.md R44: the ENGINE's completion is enabled exactly when BUSY = 1, always answers a next
state, clears BUSY and sets DONE; no command writes CMDW, IE, DROP, BUSERR or RX_LEN. -/
def Obligations.EveryCommandCompletes : Prop :=
  (∀ s : State, s.busy = true → ∃ t, engineTurn s = .next t ∧ t.busy = false ∧ t.done = true ∧
    t.cmdw = s.cmdw ∧ t.ie = s.ie ∧ t.drop = s.drop ∧ t.busErr = s.busErr ∧ t.rxLen = s.rxLen ∧
    t.agenda = s.agenda ∧ t.rdata = s.rdata ∧ t.draws = s.draws) ∧
  (∀ s : State, s.busy = false → engineTurn s = .next s)

/-- R244, 60_exceptions.md R254: no run of the machine ever stops. -/
def Obligations.NoRunStops : Prop := ∀ (n : Nat) (s : State), runsFor n s

/-- R245: what a command that raises an error changes besides STATUS.ERR, BUSY and DONE. -/
def Obligations.ErrorsChangeOnlyNamedState : Prop :=
  ∀ (i : Instr) (s t : State), exec i s = .next t → t.err ≠ .ok →
    ((i = .ksInit ∨ i = .ksInitSalt) →
      t = { s with err := t.err, busy := false, done := true, keyValid := false,
                   key := Vector.replicate 56 0, keyLen := 0, salt := Vector.replicate 56 0, saltLen := 0 }) ∧
    (i = .rxFrame →
      t = { s with err := t.err, busy := false, done := true,
                   dataLo := t.dataLo, dataHi := t.dataHi, rxPos := t.rxPos } ∧
      (s.rxLen.toNat < s.rxPos.toNat + 2 → t.dataLo = s.dataLo ∧ t.dataHi = s.dataHi) ∧
      (t.err ≠ .invalidBlockAlignment → t.rxPos = s.rxPos)) ∧
    (∀ b, i = .ckVerify b →
      t = { s with err := t.err, busy := false, done := true, cksum := t.cksum } ∧
      (t.err ≠ .checksumMismatch → t.cksum = s.cksum)) ∧
    (i ≠ .ksInit → i ≠ .ksInitSalt → i ≠ .rxFrame → (∀ b, i ≠ .ckVerify b) →
      t = { s with err := t.err, busy := false, done := true })

/-- R22 to R24, R26, R46: of the commands only KS_INIT and KS_INIT_SALT write P, S and KEY_VALID, of the host accesses
only a soft reset; of the steps only those and an assertion of the reset input, which clears KEY_VALID. -/
def Obligations.OnlyKeySchedulesWriteCipher : Prop :=
  (∀ (i : Instr) (s t : State), i ≠ .ksInit → i ≠ .ksInitSalt → exec i s = .next t →
    t.cipher = s.cipher ∧ t.keyValid = s.keyValid) ∧
  (∀ (x : HostAccess) (s : State),
    (∀ w off d, x = .write w off d → off.toNat = 0x004 → d.getLsbD 1 = false) →
    (hostAccess x s).cipher = s.cipher ∧ (hostAccess x s).keyValid = s.keyValid) ∧
  (∀ (s t : State) (rest : List Turn), s.agenda = .resetInput :: rest → step s = .next t →
    t.keyValid = false) ∧
  (∀ s t : State, step s = .next t → (∀ rest, s.agenda ≠ .resetInput :: rest) →
    (∀ w off d rest, s.agenda = .host (.write w off d) :: rest → off.toNat = 0x004 → d.getLsbD 1 = false) →
    (s.busy = true → decodeWord s.cmdw ≠ .ok .ksInit ∧ decodeWord s.cmdw ≠ .ok .ksInitSalt) →
    t.cipher = s.cipher ∧ t.keyValid = s.keyValid)

/-- R39 to R41 and the canonical form of the buffers: every step keeps TX_LEN, RX_POS and RX_LEN in 0..65536 and
the memory in its canonical form. -/
def Obligations.StepKeepsInvariant : Prop :=
  ∀ s t : State, s.inv = true → step s = .next t → t.inv = true

/-- R25: every step keeps that, while KEY_VALID is 1, P and S are what a key schedule built from a key of 1 to
56 bytes and a salt of at most 56. -/
def Obligations.StepKeepsKeySound : Prop :=
  ∀ s t : State, s.keySound → step s = .next t → t.keySound

/-- Both invariants hold at reset. -/
def Obligations.ResetMeetsInvariants : Prop := State.reset.inv = true ∧ State.reset.keySound

/-! ### Reset (70_reset_and_hazards.md) -/

/-- R290, 10_state.md R46: what a power-on reset leaves, at the first one and at every later assertion of the
reset input; the FCE is then idle and waits for a command. -/
def Obligations.PowerOnReset : Prop :=
  (∀ k : Nat, ∀ s : State, s = State.powerOn k →
    s.busy = false ∧ s.cmdw = 0 ∧ s.keyValid = false ∧ s.ie = false ∧ s.done = false ∧ s.drop = false ∧
    s.busErr = false ∧ s.err.code = 0 ∧ s.statusWord = 0 ∧ s.ctrlWord = 0 ∧ s.irq = false ∧
    s.key = Vector.replicate 56 0 ∧ s.keyLen = 0 ∧ s.salt = Vector.replicate 56 0 ∧ s.saltLen = 0 ∧
    s.roff = 0 ∧ s.rlen = 0 ∧ s.dataLo = 0 ∧ s.dataHi = 0 ∧ s.txLen = 0 ∧ s.rxPos = 0 ∧ s.rxLen = 0 ∧
    s.cksum = 0 ∧ readReg .id s = 0x46434501) ∧
  State.reset = State.powerOn 0 ∧
  step State.reset = .next State.reset ∧
  (∀ (s : State) (rest : List Turn), s.agenda = .resetInput :: rest →
    step s = .next { State.powerOn s.draws with agenda := rest })

/-- R292: a write to CTRL with bit 1 set is a soft reset, in the BUSY window too: everything but the buffers and
IE goes to its reset value, IE takes bit 0 of the write, and an FCE with no command latched keeps its buffers. -/
def Obligations.SoftReset : Prop :=
  ∀ (s : State) (d : Word), d.getLsbD 1 = true →
    let t := hostAccess (.write .w32 0x004 d) s
    t.keyValid = false ∧ t.key = Vector.replicate 56 0 ∧ t.keyLen = 0 ∧ t.salt = Vector.replicate 56 0 ∧
    t.saltLen = 0 ∧ t.statusWord = 0 ∧ t.ie = d.getLsbD 0 ∧ t.irq = false ∧ t.cmdw = 0 ∧
    t.roff = 0 ∧ t.rlen = 0 ∧ t.dataLo = 0 ∧ t.dataHi = 0 ∧ t.txLen = 0 ∧ t.rxPos = 0 ∧ t.rxLen = 0 ∧
    t.cksum = 0 ∧ readReg .id t = 0x46434501 ∧ t.agenda = s.agenda ∧ t.rdata = s.rdata ∧
    (s.busy = false → s.mem.sameBytes t.mem)

/-- R293: a soft reset of a running command ends it with nothing reported, and leaves every buffer byte alone
that the command does not write; an illegal word that is latched writes none. -/
def Obligations.SoftResetAbortsCommand : Prop :=
  (∀ (s : State) (d : Word) (i : Instr), s.busy = true → decodeWord s.cmdw = .ok i → d.getLsbD 1 = true →
    let t := hostAccess (.write .w32 0x004 d) s
    t.busy = false ∧ t.done = false ∧ t.err = .ok ∧
    (∀ b, i = .encRange b ∨ i = .decRange b → s.mem.sameOutside t.mem (rangeAddr b s) (rangeLen s)) ∧
    (∀ b, i = .ckWrite b → s.mem.sameOutside t.mem (slotAddr b s) 4) ∧
    (∀ n, (i, n) ∈ [(Instr.txPutU8, 1), (Instr.txPutU16, 2), (Instr.txPutU32, 4), (Instr.txPutU64, 8),
        (Instr.txPutF32, 4), (Instr.txPutF64, 8)] → s.mem.sameOutside t.mem (writerAddr s) n) ∧
    (i = .txSeal → s.mem.sameOutside t.mem (bufAddr .tx 0) 2) ∧
    ((∀ b, i ≠ .encRange b ∧ i ≠ .decRange b ∧ i ≠ .ckWrite b) →
      i ∉ [Instr.txPutU8, .txPutU16, .txPutU32, .txPutU64, .txPutF32, .txPutF64, .txSeal] →
      s.mem.sameBytes t.mem)) ∧
  (∀ (s : State) (d : Word) (e : DecodeError), s.busy = true → decodeWord s.cmdw = .error e →
    d.getLsbD 1 = true →
    let t := hostAccess (.write .w32 0x004 d) s
    t.busy = false ∧ t.done = false ∧ t.err = .ok ∧ s.mem.sameBytes t.mem)

/-! ### The host port (20_memory.md, 10_state.md §5) -/

/-- 44_control.md R241: issue. -/
def Obligations.IssueLatchesCommand : Prop :=
  ∀ (s : State) (w : Word),
    (s.busy = true → hostAccess (.write .w32 0x00C w) s = { s with drop := true }) ∧
    (s.busy = false → hostAccess (.write .w32 0x00C w) s = { s with cmdw := w, busy := true })

/-- R74: while BUSY = 1 a host write that is no bus error changes nothing and sets DROP, but for CTRL and
STATUS. That a write to a reserved offset sets DROP is the model's choice where R74 and R63 disagree (log entry 10,
DEDUCED). -/
def Obligations.BusyWindowDropsWrites : Prop :=
  ∀ (s : State) (w : Width) (off : BitVec 18) (d : Word), s.busy = true → busError w off.toNat = false →
    (off.toNat ≠ 0x004 → off.toNat ≠ 0x008 →
      hostAccess (.write w off d) s = { s with drop := true }) ∧
    (off.toNat = 0x004 → d.getLsbD 1 = false →
      hostAccess (.write w off d) s = { s with ie := d.getLsbD 0 }) ∧
    (off.toNat = 0x004 → d.getLsbD 1 = true → (hostAccess (.write w off d) s).busy = false) ∧
    (off.toNat = 0x008 → hostAccess (.write w off d) s =
      { s with done := s.done && !d.getLsbD 2, drop := s.drop && !d.getLsbD 3,
               busErr := s.busErr && !d.getLsbD 4 })

/-- R66, R67: a width other than 32 bits in the register region, or a misaligned access anywhere, is a bus
error, checked before the BUSY window: a read returns 0, a write changes nothing, both set BUSERR; no other
read sets it. That a bus-error read sets BUSERR is the model's choice where R67 and R70 disagree (log entry 9,
DEDUCED). -/
def Obligations.BusErrors : Prop :=
  ∀ (s : State) (w : Width) (off : BitVec 18) (d : Word),
    (((off.toNat < 0x40 ∧ w ≠ .w32) ∨ (w = .w16 ∧ off.toNat % 2 ≠ 0) ∨ (w = .w32 ∧ off.toNat % 4 ≠ 0)) →
      hostAccess (.read w off) s = { s with rdata := 0, busErr := true } ∧
      hostAccess (.write w off d) s = { s with busErr := true }) ∧
    (¬((off.toNat < 0x40 ∧ w ≠ .w32) ∨ (w = .w16 ∧ off.toNat % 2 ≠ 0) ∨ (w = .w32 ∧ off.toNat % 4 ≠ 0)) →
      (hostAccess (.read w off) s).busErr = s.busErr)

/-- R76: ID, CTRL, STATUS and CMD read their values at all times; in the BUSY window the KEY and SALT windows
and the reserved offsets read 0, and a read of anything else changes nothing but the data returned (and the
model's count of draws). -/
def Obligations.BusyWindowReads : Prop :=
  ∀ s : State,
    hostAccess (.read .w32 0x000) s = { s with rdata := 0x46434501 } ∧
    hostAccess (.read .w32 0x004) s = { s with rdata := s.ctrlWord } ∧
    hostAccess (.read .w32 0x008) s = { s with rdata := s.statusWord } ∧
    hostAccess (.read .w32 0x00C) s = { s with rdata := s.cmdw } ∧
    ∀ (w : Width) (off : BitVec 18), s.busy = true → busError w off.toNat = false →
      (((0x38 ≤ off.toNat ∧ off.toNat < 0x10000) ∨ 0x30000 ≤ off.toNat) →
        hostAccess (.read w off) s = { s with rdata := 0 }) ∧
      (((0x10 ≤ off.toNat ∧ off.toNat < 0x38) ∨ (0x10000 ≤ off.toNat ∧ off.toNat < 0x30000)) →
        hostAccess (.read w off) s =
          { s with rdata := (hostAccess (.read w off) s).rdata, draws := s.draws + 1 })

/-- R61, R65: an aligned access of an idle FCE to a buffer window moves exactly the bytes of its width,
little-endian, and touches no register. -/
def Obligations.BufferWindowAccess : Prop :=
  ∀ (s : State) (w : Width) (off : BitVec 18) (d : Word), s.busy = false →
    off.toNat % w.bytes = 0 → 0x10000 ≤ off.toNat → off.toNat < 0x30000 →
    (∃ t, hostAccess (.write w off d) s = t ∧ t = { s with mem := t.mem } ∧
      (∀ k, k < w.bytes → t.mem.read (off.toNat + k) = d.extractLsb' (8 * k) 8) ∧
      s.mem.sameOutside t.mem off.toNat w.bytes) ∧
    (∃ t, hostAccess (.read w off) s = t ∧ t = { s with rdata := t.rdata } ∧
      (∀ k, k < w.bytes → t.rdata.extractLsb' (8 * k) 8 = s.mem.read (off.toNat + k)) ∧
      (∀ k, w.bytes ≤ k → k < 4 → t.rdata.extractLsb' (8 * k) 8 = 0))

/-- R62: an aligned write of an idle FCE to the KEY or SALT window sets exactly the bytes of its width, and
every read of either window returns 0 and has no other effect. -/
def Obligations.KeyAndSaltWindows : Prop :=
  (∀ (s : State) (w : Width) (i : Nat) (d : Word), s.busy = false → i < 56 → i % w.bytes = 0 →
    (∃ t, hostAccess (.write w (BitVec.ofNat 18 (0x40 + i)) d) s = t ∧ t = { s with key := t.key } ∧
      ∀ j : Fin 56, t.key.get j =
        if i ≤ j.val ∧ j.val < i + w.bytes then d.extractLsb' (8 * (j.val - i)) 8 else s.key.get j) ∧
    (∃ t, hostAccess (.write w (BitVec.ofNat 18 (0x80 + i)) d) s = t ∧ t = { s with salt := t.salt } ∧
      ∀ j : Fin 56, t.salt.get j =
        if i ≤ j.val ∧ j.val < i + w.bytes then d.extractLsb' (8 * (j.val - i)) 8 else s.salt.get j)) ∧
  (∀ (s : State) (w : Width) (i : Nat), i < 56 → i % w.bytes = 0 →
    hostAccess (.read w (BitVec.ofNat 18 (0x40 + i))) s = { s with rdata := 0 } ∧
    hostAccess (.read w (BitVec.ofNat 18 (0x80 + i))) s = { s with rdata := 0 })

/-- R30 to R32, R35 to R42, R63, R70: what a write of an idle FCE to each register stores, what reading it back
returns, that read-only registers and reserved offsets ignore writes, that the latter read 0, and that a read changes
nothing but the data returned. -/
def Obligations.RegisterWrites : Prop :=
  ∀ (s : State) (d : Word), s.busy = false →
    (d.getLsbD 1 = false → hostAccess (.write .w32 0x004 d) s = { s with ie := d.getLsbD 0 }) ∧
    hostAccess (.write .w32 0x010 d) s = { s with keyLen := d.setWidth 8 } ∧
    hostAccess (.write .w32 0x014 d) s = { s with saltLen := d.setWidth 8 } ∧
    hostAccess (.write .w32 0x018 d) s = { s with roff := d.setWidth 16 } ∧
    hostAccess (.write .w32 0x01C d) s = { s with rlen := d.setWidth 17 } ∧
    hostAccess (.write .w32 0x020 d) s = { s with dataLo := d } ∧
    hostAccess (.write .w32 0x024 d) s = { s with dataHi := d } ∧
    (∃ t, hostAccess (.write .w32 0x030 d) s = t ∧ t = { s with rxLen := t.rxLen } ∧
      t.rxLen.toNat = min (d.extractLsb' 0 17).toNat 65536) ∧
    (∀ off : BitVec 18, off ∈ ([0x000, 0x028, 0x02C, 0x034] : List (BitVec 18)) →
      hostAccess (.write .w32 off d) s = s) ∧
    (∀ r : BitVec 18 × Word,
      r ∈ [(0x004#18, 0x1#32), (0x010#18, 0xFF#32), (0x014#18, 0xFF#32), (0x018#18, 0xFFFF#32),
           (0x01C#18, 0x1FFFF#32), (0x020#18, 0xFFFFFFFF#32), (0x024#18, 0xFFFFFFFF#32)] →
      (hostAccess (.read .w32 r.1) (hostAccess (.write .w32 r.1 d) s)).rdata = d &&& r.2) ∧
    (∀ r : BitVec 18 × Word,
      r ∈ [(0x000#18, 0x46434501#32), (0x004#18, if s.ie then 1#32 else 0#32), (0x008#18, s.statusWord),
           (0x00C#18, s.cmdw), (0x010#18, s.keyLen.setWidth 32), (0x014#18, s.saltLen.setWidth 32),
           (0x018#18, s.roff.setWidth 32), (0x01C#18, s.rlen.setWidth 32), (0x020#18, s.dataLo),
           (0x024#18, s.dataHi), (0x028#18, s.txLen.setWidth 32), (0x02C#18, s.rxPos.setWidth 32),
           (0x030#18, s.rxLen.setWidth 32), (0x034#18, s.cksum)] →
      hostAccess (.read .w32 r.1) s = { s with rdata := r.2 }) ∧
    (∀ (w : Width) (off : BitVec 18), off.toNat % w.bytes = 0 →
      (w = .w32 ∧ 0x38 ≤ off.toNat ∧ off.toNat < 0x40) ∨ (0x78 ≤ off.toNat ∧ off.toNat < 0x80) ∨
        (0xB8 ≤ off.toNat ∧ off.toNat < 0x10000) ∨ 0x30000 ≤ off.toNat →
      hostAccess (.read w off) s = { s with rdata := 0 } ∧ hostAccess (.write w off d) s = s)

/-- R33, R79: the fields of the STATUS word, and the write that clears DONE, DROP and BUSERR bit by bit. -/
def Obligations.StatusRegister : Prop :=
  ∀ (s : State) (d : Word),
    s.statusWord.getLsbD 0 = s.busy ∧ s.statusWord.getLsbD 1 = s.keyValid ∧
    s.statusWord.getLsbD 2 = s.done ∧ s.statusWord.getLsbD 3 = s.drop ∧ s.statusWord.getLsbD 4 = s.busErr ∧
    s.statusWord.extractLsb' 5 3 = 0 ∧ s.statusWord.extractLsb' 8 8 = s.err.code ∧
    s.statusWord.extractLsb' 16 16 = 0 ∧
    hostAccess (.write .w32 0x008 d) s =
      { s with done := s.done && !d.getLsbD 2, drop := s.drop && !d.getLsbD 3,
               busErr := s.busErr && !d.getLsbD 4 }

/-- R45: after every step of either agent IRQ is DONE and IE, as the host reads them in STATUS and CTRL. -/
def Obligations.IrqLine : Prop :=
  ∀ s t : State, step s = .next t → t.irq = (t.statusWord.getLsbD 2 && t.ctrlWord.getLsbD 0)

/-- R26, R62: two states that differ in P, S, KEY and SALT alone answer every host access alike, and differ in
nothing else after it. -/
def Obligations.HostReadsNoSecrets : Prop :=
  ∀ (x : HostAccess) (s1 s2 t1 t2 : State),
    s2 = { s1 with cipher := s2.cipher, key := s2.key, salt := s2.salt } →
    t1 = hostAccess x s1 → t2 = hostAccess x s2 →
    t2.rdata = t1.rdata ∧ t2 = { t1 with cipher := t2.cipher, key := t2.key, salt := t2.salt }

/-- R75: whatever host accesses come in the BUSY window, a soft reset apart, the command's operands and every
buffer byte hold at completion what they held at issue. -/
def Obligations.OperandsStableInBusyWindow : Prop :=
  ∀ (xs : List HostAccess) (s : State), s.busy = true →
    (∀ x ∈ xs, ∀ w off d, x = .write w off d → off.toNat = 0x004 → d.getLsbD 1 = false) →
    let t := xs.foldl (fun u x => hostAccess x u) s
    t = { s with ie := t.ie, done := t.done, drop := t.drop, busErr := t.busErr, rdata := t.rdata,
                 draws := t.draws }

/-! ### Control and result codes -/

/-- R240: NOP. -/
def Obligations.NopCompletes : Prop :=
  (∀ s : State, exec .nop s = .next { s with err := .ok, busy := false, done := true }) ∧
  encodeWord .nop = 0x00000000 ∧ ErrCode.ok.code = 0x00

/-- R250: the code of each result; no other code is produced. -/
def Obligations.ResultCodes : Prop :=
  ErrCode.ok.code = 0x00 ∧ ErrCode.invalidKeySize.code = 0x01 ∧ ErrCode.invalidBlockAlignment.code = 0x02 ∧
  ErrCode.shortRead.code = 0x03 ∧ ErrCode.checksumMismatch.code = 0x04 ∧
  ErrCode.illegalCommand.code = 0x05 ∧ ErrCode.keyNotValid.code = 0x06 ∧
  ErrCode.invalidSaltSize.code = 0x07 ∧ ErrCode.rangeError.code = 0x08 ∧ ErrCode.txOverflow.code = 0x09 ∧
  ErrCode.invalidChecksumLength.code = 0x0A ∧ ErrCode.frameLengthError.code = 0x0B ∧
  ∀ s : State, (s.statusWord.extractLsb' 8 8).toNat < 0x0C

/-! ### The cipher engine (40_cipher.md) -/

/-- R110: the round function, with the bytes of x most-significant first and both additions modulo 2^32, and
its example over the initial S-boxes. -/
def Obligations.RoundFunction : Prop :=
  (∀ (k : CipherState) (x : Word) (a b c d : Fin 256),
    x.toNat = a.val * 2 ^ 24 + b.val * 2 ^ 16 + c.val * 2 ^ 8 + d.val →
    (k.f x).toNat =
      ((((((k.s.get 0).get a).toNat + ((k.s.get 1).get b).toNat) % 2 ^ 32) ^^^ ((k.s.get 2).get c).toNat) +
        ((k.s.get 3).get d).toNat) % 2 ^ 32) ∧
  initCipher.f 0x00000000 = 0x2FCFF51E

/-- R111, and R112's transform: whitening, eight pairs of rounds with the round keys in ascending order (descending
for DEC), the last key into the half that becomes the new left, and the final swap; `l k` and `r k` are the halves
after k pairs of rounds. -/
def Obligations.EncAndDecRounds : Prop :=
  ∀ (c : CipherState) (x y : Word) (l r : Nat → Word), r 0 = y →
    (l 0 = x ^^^ c.p.get 0 →
      (∀ (k : Nat) (h : k < 8),
        r (k + 1) = r k ^^^ c.f (l k) ^^^ c.p.get ⟨2 * k + 1, by omega⟩ ∧
        l (k + 1) = l k ^^^ c.f (r (k + 1)) ^^^ c.p.get ⟨2 * k + 2, by omega⟩) →
      c.enc (x, y) = (r 8 ^^^ c.p.get 17, l 8)) ∧
    (l 0 = x ^^^ c.p.get 17 →
      (∀ (k : Nat) (h : k < 8),
        r (k + 1) = r k ^^^ c.f (l k) ^^^ c.p.get ⟨16 - 2 * k, by omega⟩ ∧
        l (k + 1) = l k ^^^ c.f (r (k + 1)) ^^^ c.p.get ⟨15 - 2 * k, by omega⟩) →
      c.dec (x, y) = (r 8 ^^^ c.p.get 0, l 8))

/-- R112: DEC and ENC are inverse to each other, for every CipherState and every block. -/
def Obligations.EncAndDecAreInverse : Prop :=
  ∀ (c : CipherState) (lr : Block), c.dec (c.enc lr) = lr ∧ c.enc (c.dec lr) = lr

/-- R114: ENC_BLK puts ENC(DATA_LO, DATA_HI) into DATA_LO and DATA_HI and changes nothing else. -/
def Obligations.EncBlkResult : Prop :=
  (∀ s : State, s.keyValid = true →
    exec .encBlk s = .next { s with dataLo := (s.cipher.enc (s.dataLo, s.dataHi)).1,
                                    dataHi := (s.cipher.enc (s.dataLo, s.dataHi)).2,
                                    err := .ok, busy := false, done := true }) ∧
  (∀ s : State, s.keyValid = false →
    exec .encBlk s = .next { s with err := .keyNotValid, busy := false, done := true }) ∧
  encodeWord .encBlk = 0x00000020

/-- R115: DEC_BLK puts DEC(DATA_LO, DATA_HI) into DATA_LO and DATA_HI and changes nothing else. -/
def Obligations.DecBlkResult : Prop :=
  (∀ s : State, s.keyValid = true →
    exec .decBlk s = .next { s with dataLo := (s.cipher.dec (s.dataLo, s.dataHi)).1,
                                    dataHi := (s.cipher.dec (s.dataLo, s.dataHi)).2,
                                    err := .ok, busy := false, done := true }) ∧
  (∀ s : State, s.keyValid = false →
    exec .decBlk s = .next { s with err := .keyNotValid, busy := false, done := true }) ∧
  encodeWord .decBlk = 0x00000021

/-- R115, S1: DEC_BLK after ENC_BLK restores the registers exactly, and ENC_BLK after DEC_BLK does. -/
def Obligations.BlockCommandsRoundTrip : Prop :=
  ∀ s : State, s.keyValid = true →
    (∃ t u, exec .encBlk s = .next t ∧ exec .decBlk t = .next u ∧
      u = { s with err := .ok, busy := false, done := true }) ∧
    (∃ t u, exec .decBlk s = .next t ∧ exec .encBlk t = .next u ∧
      u = { s with err := .ok, busy := false, done := true })

/-- R116, R117, R119: over a legal range ENC_RANGE and DEC_RANGE put the transform of each 8-byte block in its
place, read and written as two little-endian words, and change no other byte and no other register. -/
def Obligations.RangeCiphersTransformBlocks : Prop :=
  ∀ (b : BufSel) (s : State), s.keyValid = true → s.rlen.toNat ≠ 0 → s.rlen.toNat % 8 = 0 →
    s.roff.toNat + s.rlen.toNat ≤ 65536 →
    (∃ t, exec (.encRange b) s = .next t ∧
      (∀ k, k < s.rlen.toNat / 8 →
        (t.mem.le32 (rangeAddr b s + 8 * k), t.mem.le32 (rangeAddr b s + 8 * k + 4)) =
          s.cipher.enc (s.mem.le32 (rangeAddr b s + 8 * k), s.mem.le32 (rangeAddr b s + 8 * k + 4))) ∧
      s.mem.sameOutside t.mem (rangeAddr b s) s.rlen.toNat ∧
      t = { s with mem := t.mem, err := .ok, busy := false, done := true }) ∧
    (∃ t, exec (.decRange b) s = .next t ∧
      (∀ k, k < s.rlen.toNat / 8 →
        (t.mem.le32 (rangeAddr b s + 8 * k), t.mem.le32 (rangeAddr b s + 8 * k + 4)) =
          s.cipher.dec (s.mem.le32 (rangeAddr b s + 8 * k), s.mem.le32 (rangeAddr b s + 8 * k + 4))) ∧
      s.mem.sameOutside t.mem (rangeAddr b s) s.rlen.toNat ∧
      t = { s with mem := t.mem, err := .ok, busy := false, done := true })

/-- R117: DEC_RANGE over a range just encrypted by ENC_RANGE restores it byte for byte. -/
def Obligations.DecRangeUndoesEncRange : Prop :=
  ∀ (b : BufSel) (s : State), s.keyValid = true → s.rlen.toNat ≠ 0 → s.rlen.toNat % 8 = 0 →
    s.roff.toNat + s.rlen.toNat ≤ 65536 →
    ∃ t u, exec (.encRange b) s = .next t ∧ exec (.decRange b) t = .next u ∧
      s.mem.sameBytes u.mem ∧ u = { s with mem := u.mem, err := .ok, busy := false, done := true }

/-- R113, R118, 60_exceptions.md R255: the errors of ENC_RANGE and DEC_RANGE in their order; on each no byte and
no register but STATUS changes. -/
def Obligations.RangeCipherErrors : Prop :=
  ∀ (b : BufSel) (s : State) (i : Instr), i = .encRange b ∨ i = .decRange b →
    (s.keyValid = false → exec i s = .next { s with err := .keyNotValid, busy := false, done := true }) ∧
    (s.keyValid = true → s.rlen.toNat = 0 ∨ s.rlen.toNat % 8 ≠ 0 →
      exec i s = .next { s with err := .invalidBlockAlignment, busy := false, done := true }) ∧
    (s.keyValid = true → s.rlen.toNat ≠ 0 → s.rlen.toNat % 8 = 0 → 65536 < s.roff.toNat + s.rlen.toNat →
      exec i s = .next { s with err := .rangeError, busy := false, done := true })

/-! ### The key schedule builder (41_key_schedule.md) -/

/-- R150, R155: KS_INIT with a legal key length installs KS(KEY[0 .. KEYLEN-1], empty) and zeroes key and salt;
with any other length it fails, keeps P and S, clears KEY_VALID and zeroes key and salt. -/
def Obligations.KsInitResult : Prop :=
  (∀ s : State, 1 ≤ s.keyLen.toNat → s.keyLen.toNat ≤ 56 →
    exec .ksInit s = .next
      { s with cipher := keySchedule (s.key.toList.take s.keyLen.toNat) [], keyValid := true,
               key := Vector.replicate 56 0, keyLen := 0, salt := Vector.replicate 56 0, saltLen := 0,
               err := .ok, busy := false, done := true }) ∧
  (∀ s : State, s.keyLen.toNat < 1 ∨ 56 < s.keyLen.toNat →
    exec .ksInit s = .next
      { s with keyValid := false,
               key := Vector.replicate 56 0, keyLen := 0, salt := Vector.replicate 56 0, saltLen := 0,
               err := .invalidKeySize, busy := false, done := true }) ∧
  encodeWord .ksInit = 0x00000010

/-- R151, R155: KS_INIT_SALT, with the key length checked before the salt length. -/
def Obligations.KsInitSaltResult : Prop :=
  (∀ s : State, 1 ≤ s.keyLen.toNat → s.keyLen.toNat ≤ 56 → s.saltLen.toNat ≤ 56 →
    exec .ksInitSalt s = .next
      { s with cipher := keySchedule (s.key.toList.take s.keyLen.toNat) (s.salt.toList.take s.saltLen.toNat),
               keyValid := true,
               key := Vector.replicate 56 0, keyLen := 0, salt := Vector.replicate 56 0, saltLen := 0,
               err := .ok, busy := false, done := true }) ∧
  (∀ s : State, s.keyLen.toNat < 1 ∨ 56 < s.keyLen.toNat →
    exec .ksInitSalt s = .next
      { s with keyValid := false,
               key := Vector.replicate 56 0, keyLen := 0, salt := Vector.replicate 56 0, saltLen := 0,
               err := .invalidKeySize, busy := false, done := true }) ∧
  (∀ s : State, 1 ≤ s.keyLen.toNat → s.keyLen.toNat ≤ 56 → 56 < s.saltLen.toNat →
    exec .ksInitSalt s = .next
      { s with keyValid := false,
               key := Vector.replicate 56 0, keyLen := 0, salt := Vector.replicate 56 0, saltLen := 0,
               err := .invalidSaltSize, busy := false, done := true }) ∧
  encodeWord .ksInitSalt = 0x00000011

/-- R146: with SALTLEN = 0, KS_INIT_SALT leaves exactly the state KS_INIT leaves. -/
def Obligations.EmptySaltIsNoSalt : Prop :=
  ∀ s : State, s.saltLen = 0 → exec .ksInitSalt s = exec .ksInit s

/-- R154: both key-schedule commands zero KEY, SALT, KEYLEN and SALTLEN, on success and on every error. -/
def Obligations.KeySchedulesZeroize : Prop :=
  ∀ (i : Instr) (s : State), i = .ksInit ∨ i = .ksInitSalt →
    ∃ t, exec i s = .next t ∧ (∀ j : Fin 56, t.key.get j = 0 ∧ t.salt.get j = 0) ∧
      t.keyLen = 0 ∧ t.saltLen = 0

/-- R143 to R145, 40_cipher.md R121: the key schedule starts from the constants, with key words XORed into P in order
and a running block of zeros; it visits the 9 pairs of P and then the 128 pairs of each S table, 521 in all. At each,
the next two salt words (where there is a salt) go into the left and the right half of the running block, the cursor
carrying on; the block is encrypted with P and S as they then stand and carried on; it fills the pair, left half even
and right half odd, and no other word. -/
def Obligations.FillOrderCoversTables : Prop :=
  (∀ key salt : List Byte, key ≠ [] → ∃ p : Vector Word 18,
    (∀ i : Fin 18, p.get i = initCipher.p.get i ^^^ (cyclicWord key (4 * i.val % key.length)).1) ∧
    keySchedule key salt = (fillOrder.foldl (fillSlot salt) ⟨⟨p, initCipher.s⟩, (0, 0), 0⟩).cipher) ∧
  (∀ (x : Running) (slot : Slot),
    fillSlot [] x slot =
      ⟨x.cipher.putSlot (x.cipher.enc x.block) slot, x.cipher.enc x.block, x.js⟩) ∧
  (∀ (salt : List Byte) (x : Running) (slot : Slot) (a b : Word × Nat) (y : Block), salt ≠ [] →
    a = cyclicWord salt x.js → b = cyclicWord salt a.2 → y = (x.block.1 ^^^ a.1, x.block.2 ^^^ b.1) →
    fillSlot salt x slot = ⟨x.cipher.putSlot (x.cipher.enc y) slot, x.cipher.enc y, b.2⟩) ∧
  (∀ (salt : List Byte) (c : CipherState) (n : Nat), salt ≠ [] → n ≤ 521 →
    ((fillOrder.take n).foldl (fillSlot salt) ⟨c, (0, 0), 0⟩).js = 8 * n % salt.length) ∧
  fillOrder.length = 521 ∧
  (∀ i : Fin 9, fillOrder[i.val]? = some (.p i)) ∧
  (∀ (t : Fin 4) (i : Fin 128), fillOrder[9 + 128 * t.val + i.val]? = some (.s t i)) ∧
  (∀ (c : CipherState) (b : Block) (i : Fin 9),
    (c.putSlot b (.p i)).s = c.s ∧
    ∀ j : Fin 18, (c.putSlot b (.p i)).p.get j =
      if j.val = 2 * i.val then b.1 else if j.val = 2 * i.val + 1 then b.2 else c.p.get j) ∧
  (∀ (c : CipherState) (b : Block) (t : Fin 4) (i : Fin 128),
    (c.putSlot b (.s t i)).p = c.p ∧
    ∀ (t' : Fin 4) (j : Fin 256), ((c.putSlot b (.s t i)).s.get t').get j =
      if t' = t ∧ j.val = 2 * i.val then b.1
      else if t' = t ∧ j.val = 2 * i.val + 1 then b.2
      else (c.s.get t').get j)

/-- R141, R142: a key or salt word is the next four bytes, drawn cyclically, the first the most significant, and
the byte cursor moves by four, cyclically; R143: the seeding XORs the key words into the round keys in order. -/
def Obligations.WordStreamIsCyclic : Prop :=
  ∀ (m : List Byte) (j : Nat), m ≠ [] → j < m.length →
    (cyclicWord m j).1 =
      (m.getD j 0 ++ m.getD ((j + 1) % m.length) 0 ++ m.getD ((j + 2) % m.length) 0 ++
        m.getD ((j + 3) % m.length) 0 : BitVec 32) ∧
    (cyclicWord m j).2 = (j + 4) % m.length ∧
    ∀ (p : Vector Word 18) (i : Fin 18),
      (seedKeys m (List.finRange 18) 0 p).get i = p.get i ^^^ (cyclicWord m (4 * i.val % m.length)).1

/-- R152: the CipherState a successful key schedule leaves depends on the key, the salt and the constants, and on
nothing else of the state. -/
def Obligations.ScheduleIgnoresOldState : Prop :=
  ∀ (i : Instr) (s1 s2 t1 t2 : State), i = .ksInit ∨ i = .ksInitSalt →
    s1.key = s2.key → s1.keyLen = s2.keyLen → s1.salt = s2.salt → s1.saltLen = s2.saltLen →
    exec i s1 = .next t1 → exec i s2 = .next t2 → t1.err = .ok →
    t2.err = .ok ∧ t1.cipher = t2.cipher

/-- R143 (95_test_vectors.md V-KS6): an all-zero salt gives the unsalted CipherState. -/
def Obligations.ZeroSaltIsNoSalt : Prop :=
  ∀ (key : List Byte) (n : Nat), keySchedule key (List.replicate n 0) = keySchedule key []

/-! ### The packet framer (42_framer.md) -/

/-- R171, R173 to R178: each TX_PUT of n bytes appends the low n bytes of {DATA_HI, DATA_LO} at TX_LEN,
least-significant byte first, or, where they do not fit, raises TX_OVERFLOW and changes nothing. -/
def Obligations.TxPutAppends : Prop :=
  ∀ (i : Instr) (n : Nat),
    (i, n) ∈ [(Instr.txPutU8, 1), (Instr.txPutU16, 2), (Instr.txPutU32, 4), (Instr.txPutU64, 8),
      (Instr.txPutF32, 4), (Instr.txPutF64, 8)] →
    ∀ s : State,
      (s.txLen.toNat + n ≤ 65536 → ∃ t, exec i s = .next t ∧ t.txLen.toNat = s.txLen.toNat + n ∧
        (∀ k, k < n → t.mem.read (writerAddr s + k) = byteOf s.data64 k) ∧
        s.mem.sameOutside t.mem (writerAddr s) n ∧
        t = { s with mem := t.mem, txLen := t.txLen, err := .ok, busy := false, done := true }) ∧
      (65536 < s.txLen.toNat + n →
        exec i s = .next { s with err := .txOverflow, busy := false, done := true })

/-- R179: TX_PUT_RAW advances TX_LEN by RLEN and writes no byte. -/
def Obligations.TxPutRawCommits : Prop :=
  ∀ s : State,
    (s.txLen.toNat + s.rlen.toNat ≤ 65536 → ∃ t, exec .txPutRaw s = .next t ∧
      t.txLen.toNat = s.txLen.toNat + s.rlen.toNat ∧
      t = { s with txLen := t.txLen, err := .ok, busy := false, done := true }) ∧
    (65536 < s.txLen.toNat + s.rlen.toNat →
      exec .txPutRaw s = .next { s with err := .txOverflow, busy := false, done := true }) ∧
    encodeWord .txPutRaw = 0x00000047

/-- R172, R190: TX_CLEAR sets TX_LEN and RX_START sets RX_POS to 0, and nothing else, so that every buffer byte
keeps its value. -/
def Obligations.ClearAndStart : Prop :=
  ∀ s : State,
    exec .txClear s = .next { s with txLen := 0, err := .ok, busy := false, done := true } ∧
    exec .rxStart s = .next { s with rxPos := 0, err := .ok, busy := false, done := true } ∧
    encodeWord .txClear = 0x00000040 ∧ encodeWord .rxStart = 0x00000050

/-- R180: TX_SEAL writes TX_LEN, little-endian, into TX[0..1], or raises FRAME_LENGTH_ERROR when TX_LEN is 0, 1 or
more than 65535. -/
def Obligations.TxSealWritesLength : Prop :=
  ∀ s : State,
    (2 ≤ s.txLen.toNat → s.txLen.toNat ≤ 65535 → ∃ t, exec .txSeal s = .next t ∧
      (t.mem.read (bufAddr .tx 0)).toNat + 256 * (t.mem.read (bufAddr .tx 1)).toNat = s.txLen.toNat ∧
      s.mem.sameOutside t.mem (bufAddr .tx 0) 2 ∧
      t = { s with mem := t.mem, err := .ok, busy := false, done := true }) ∧
    (s.txLen.toNat < 2 ∨ 65535 < s.txLen.toNat →
      exec .txSeal s = .next { s with err := .frameLengthError, busy := false, done := true }) ∧
    encodeWord .txSeal = 0x00000048 ∧ ErrCode.frameLengthError.code = 0x0B

/-- R186, R191 to R196: each RX_GET of n bytes takes the n bytes at RX_POS, least-significant first, into
{DATA_HI, DATA_LO}, zero-extended, and advances RX_POS by n; a short read changes nothing. -/
def Obligations.RxGetConsumes : Prop :=
  ∀ (i : Instr) (n : Nat),
    (i, n) ∈ [(Instr.rxGetU8, 1), (Instr.rxGetU16, 2), (Instr.rxGetU32, 4), (Instr.rxGetU64, 8),
      (Instr.rxGetF32, 4), (Instr.rxGetF64, 8)] →
    ∀ s : State,
      (s.rxPos.toNat + n ≤ s.rxLen.toNat → ∃ t, exec i s = .next t ∧ t.rxPos.toNat = s.rxPos.toNat + n ∧
        (∀ k, k < n → byteOf t.data64 k = s.mem.read (readerAddr s + k)) ∧
        (∀ k, n ≤ k → k < 8 → byteOf t.data64 k = 0) ∧
        t = { s with rxPos := t.rxPos, dataLo := t.dataLo, dataHi := t.dataHi,
                     err := .ok, busy := false, done := true }) ∧
      (s.rxLen.toNat < s.rxPos.toNat + n →
        exec i s = .next { s with err := .shortRead, busy := false, done := true })

/-- R197: RX_GET_RAW reports RX_POS in DATA_LO and advances RX_POS by RLEN. -/
def Obligations.RxGetRawConsumes : Prop :=
  ∀ s : State,
    (s.rxPos.toNat + s.rlen.toNat ≤ s.rxLen.toNat → ∃ t, exec .rxGetRaw s = .next t ∧
      t.rxPos.toNat = s.rxPos.toNat + s.rlen.toNat ∧ t.dataLo.toNat = s.rxPos.toNat ∧
      t = { s with rxPos := t.rxPos, dataLo := t.dataLo, dataHi := 0,
                   err := .ok, busy := false, done := true }) ∧
    (s.rxLen.toNat < s.rxPos.toNat + s.rlen.toNat →
      exec .rxGetRaw s = .next { s with err := .shortRead, busy := false, done := true }) ∧
    encodeWord .rxGetRaw = 0x00000057

/-- R199: the five outcomes of RX_FRAME, with p = RX_POS and L the frame length at RX[p], in the order of its
checks. -/
def Obligations.RxFrameAccepts : Prop :=
  ∀ (s : State) (p len : Nat), p = s.rxPos.toNat →
    len = (s.mem.read (readerAddr s)).toNat + 256 * (s.mem.read (readerAddr s + 1)).toNat →
    s.rxLen.toNat ≤ 65536 → encodeWord .rxFrame = 0x00000058 ∧
    ∃ t, exec .rxFrame s = .next t ∧
      if s.rxLen.toNat < p + 2 then
        t = { s with err := .shortRead, busy := false, done := true }
      else if len < 2 then
        t.rxPos.toNat = p + 2 ∧
        t = { s with dataLo := BitVec.ofNat 32 len, dataHi := 0, rxPos := t.rxPos,
                     err := .invalidBlockAlignment, busy := false, done := true }
      else if s.rxLen.toNat < p + len then
        t = { s with dataLo := BitVec.ofNat 32 len, dataHi := 0,
                     err := .shortRead, busy := false, done := true }
      else if len - 2 = 0 ∨ (len - 2) % 8 ≠ 0 then
        t.rxPos.toNat = p + len ∧
        t = { s with dataLo := BitVec.ofNat 32 len, dataHi := 0, rxPos := t.rxPos,
                     err := .invalidBlockAlignment, busy := false, done := true }
      else
        t.rxPos.toNat = p + len ∧ t.roff.toNat = p + 2 ∧ t.rlen.toNat = len - 2 ∧
        t = { s with dataLo := BitVec.ofNat 32 len, dataHi := 0, rxPos := t.rxPos, roff := t.roff,
                     rlen := t.rlen, err := .ok, busy := false, done := true }

/-- R200: a value put by a TX_PUT command, whose bytes are copied to where the reader stands, comes back from
the matching RX_GET command, zero-extended. -/
def Obligations.CodecRoundTrip : Prop :=
  ∀ (put take : Instr) (n : Nat),
    (put, take, n) ∈ [(Instr.txPutU8, Instr.rxGetU8, 1), (Instr.txPutU16, Instr.rxGetU16, 2),
      (Instr.txPutU32, Instr.rxGetU32, 4), (Instr.txPutU64, Instr.rxGetU64, 8),
      (Instr.txPutF32, Instr.rxGetF32, 4), (Instr.txPutF64, Instr.rxGetF64, 8)] →
    ∀ s u : State, s.txLen.toNat + n ≤ 65536 → u.rxPos.toNat + n ≤ u.rxLen.toNat →
      ∃ t, exec put s = .next t ∧
        ((∀ k, k < n → u.mem.read (readerAddr u + k) = t.mem.read (writerAddr s + k)) →
          ∃ v, exec take u = .next v ∧ v.data64.toNat = s.data64.toNat % 2 ^ (8 * n))

/-! ### The XOR-fold checksum (43_checksum.md) -/

/-- R222: the fold is the XOR of every complete word of the range but the final one. -/
def Obligations.FoldIsXorOfWords : Prop :=
  ∀ (b : BufSel) (s : State),
    foldRange b s =
      ((List.range (s.rlen.toNat / 4 - 1)).map (fun k => s.mem.le32 (rangeAddr b s + 4 * k))).foldl
        (· ^^^ ·) 0

/-- R221, R224: CK_WRITE over a legal range puts the fold into the slot and into CKSUM and changes no other byte;
else it raises its error, in order, and changes no byte and not CKSUM. -/
def Obligations.CkWriteResult : Prop :=
  ∀ (b : BufSel) (s : State),
    (s.rlen.toNat ≠ 0 → s.rlen.toNat % 4 = 0 → s.roff.toNat + s.rlen.toNat ≤ 65536 →
      ∃ t, exec (.ckWrite b) s = .next t ∧ t.mem.le32 (slotAddr b s) = foldRange b s ∧
        s.mem.sameOutside t.mem (slotAddr b s) 4 ∧
        t = { s with mem := t.mem, cksum := foldRange b s, err := .ok, busy := false, done := true }) ∧
    (s.rlen.toNat = 0 ∨ s.rlen.toNat % 4 ≠ 0 →
      exec (.ckWrite b) s = .next { s with err := .invalidChecksumLength, busy := false, done := true }) ∧
    (s.rlen.toNat ≠ 0 → s.rlen.toNat % 4 = 0 → 65536 < s.roff.toNat + s.rlen.toNat →
      exec (.ckWrite b) s = .next { s with err := .rangeError, busy := false, done := true })

/-- R221, R225: CK_VERIFY over a legal range puts the fold into CKSUM and compares it with the slot; it never
writes a buffer byte. -/
def Obligations.CkVerifyResult : Prop :=
  ∀ (b : BufSel) (s : State),
    (s.rlen.toNat ≠ 0 → s.rlen.toNat % 4 = 0 → s.roff.toNat + s.rlen.toNat ≤ 65536 →
      exec (.ckVerify b) s = .next
        { s with cksum := foldRange b s,
                 err := if foldRange b s = s.mem.le32 (slotAddr b s) then .ok else .checksumMismatch,
                 busy := false, done := true }) ∧
    (s.rlen.toNat = 0 ∨ s.rlen.toNat % 4 ≠ 0 →
      exec (.ckVerify b) s = .next { s with err := .invalidChecksumLength, busy := false, done := true }) ∧
    (s.rlen.toNat ≠ 0 → s.rlen.toNat % 4 = 0 → 65536 < s.roff.toNat + s.rlen.toNat →
      exec (.ckVerify b) s = .next { s with err := .rangeError, busy := false, done := true })

/-- R226, first item: for every legal range CK_VERIFY after CK_WRITE on the same bytes succeeds. -/
def Obligations.VerifyAfterWriteSucceeds : Prop :=
  ∀ (b : BufSel) (s : State), s.rlen.toNat ≠ 0 → s.rlen.toNat % 4 = 0 →
    s.roff.toNat + s.rlen.toNat ≤ 65536 →
    ∃ t u, exec (.ckWrite b) s = .next t ∧ exec (.ckVerify b) t = .next u ∧ u.err = .ok ∧
      u.cksum = t.cksum

/-- R226, second item: when a range verifies, flipping any one bit anywhere in it, slot included, makes the
following CK_VERIFY raise CHECKSUM_MISMATCH. -/
def Obligations.SingleBitFlipDetected : Prop :=
  ∀ (b : BufSel) (s t : State) (m : Memory) (x j : Nat),
    s.rlen.toNat ≠ 0 → s.rlen.toNat % 4 = 0 → s.roff.toNat + s.rlen.toNat ≤ 65536 →
    exec (.ckVerify b) s = .next t → t.err = .ok →
    rangeAddr b s ≤ x → x < rangeAddr b s + s.rlen.toNat → j < 8 →
    m.read x = s.mem.read x ^^^ BitVec.twoPow 8 j → (∀ y, y ≠ x → m.read y = s.mem.read y) →
    ∃ u, exec (.ckVerify b) { s with mem := m } = .next u ∧ u.err = .checksumMismatch

/-- R226, third item: two flips at the same bit position of two different words outside the slot cancel, and a range
that verified still verifies. -/
def Obligations.TwoFlipsCancel : Prop :=
  ∀ (b : BufSel) (s t : State) (m : Memory) (k1 k2 j : Nat),
    s.rlen.toNat ≠ 0 → s.rlen.toNat % 4 = 0 → s.roff.toNat + s.rlen.toNat ≤ 65536 →
    exec (.ckVerify b) s = .next t → t.err = .ok →
    k1 < k2 → k2 < s.rlen.toNat / 4 - 1 → j < 32 →
    m.le32 (rangeAddr b s + 4 * k1) = s.mem.le32 (rangeAddr b s + 4 * k1) ^^^ BitVec.twoPow 32 j →
    m.le32 (rangeAddr b s + 4 * k2) = s.mem.le32 (rangeAddr b s + 4 * k2) ^^^ BitVec.twoPow 32 j →
    (∀ y, y < rangeAddr b s + 4 * k1 ∨ rangeAddr b s + 4 * k1 + 4 ≤ y →
      y < rangeAddr b s + 4 * k2 ∨ rangeAddr b s + 4 * k2 + 4 ≤ y → m.read y = s.mem.read y) →
    ∃ u, exec (.ckVerify b) { s with mem := m } = .next u ∧ u.err = .ok
end

