-- ==== Sys2Proof/Laws/Memory.lean ====
section
/-! SUPPORT. The laws of the buffer memory: a read after a write, what a write leaves alone, and the
canonical form, which every operation keeps. -/

namespace Sys2Proof.Machine

/-! ### Cells -/

theorem lookupCell_insertCell_same (l : List Host.Cell) (a : Nat) (b : Byte) :
    lookupCell (insertCell l a b) a = some b := by
  induction l with
  | nil => simp [insertCell, lookupCell]
  | cons c rest ih =>
    obtain ⟨a', b'⟩ := c
    simp only [insertCell]
    split
    · simp [lookupCell]
    · split
      · simp [lookupCell]
      · simp_all [lookupCell]

theorem lookupCell_insertCell_other (l : List Host.Cell) {a x : Nat} (b : Byte) (h : x ≠ a) :
    lookupCell (insertCell l a b) x = lookupCell l x := by
  induction l with
  | nil => simp [insertCell, lookupCell, h]
  | cons c rest ih =>
    obtain ⟨a', b'⟩ := c
    simp only [insertCell]
    split
    · simp [lookupCell, h]
    · split
      · simp_all [lookupCell]
      · simp_all [lookupCell]

theorem risingAbove_insertCell {l : List Host.Cell} {lo a : Nat} (b : Byte)
    (h : risingAbove lo l = true) (ha : lo < a) : risingAbove lo (insertCell l a b) = true := by
  induction l generalizing lo with
  | nil => simp [insertCell, risingAbove, ha]
  | cons c rest ih =>
    obtain ⟨a', b'⟩ := c
    simp only [risingAbove, Bool.and_eq_true, decide_eq_true_eq] at h
    simp only [insertCell]
    split
    · simp_all [risingAbove]
    · split
      · simp_all [risingAbove]
      · rename_i h1 h2
        have h3 : a' < a := by omega
        simp [risingAbove, h.1, ih h.2 h3]

theorem all_insertCell {l : List Host.Cell} {a : Nat} {b : Byte} {p : Host.Cell → Bool}
    (h : l.all p = true) (ha : p (a, b) = true) : (insertCell l a b).all p = true := by
  induction l with
  | nil => simp [insertCell, ha]
  | cons c rest ih =>
    obtain ⟨a', b'⟩ := c
    simp only [List.all_cons, Bool.and_eq_true] at h
    simp only [insertCell]
    split
    · simp [h, ha]
    · split
      · simp [h.2, ha]
      · simp [h.1, ih h.2]

/-! ### One byte -/

@[simp] theorem Memory.write_epoch (m : Memory) (a : Nat) (b : Byte) : (m.write a b).epoch = m.epoch := rfl

theorem Memory.read_write_same (m : Memory) (a : Nat) (b : Byte) : (m.write a b).read a = b := by
  simp [Memory.read, Memory.peek, Memory.write, lookupCell_insertCell_same]

theorem Memory.read_write_other (m : Memory) {a x : Nat} (b : Byte) (h : x ≠ a) :
    (m.write a b).read x = m.read x := by
  simp [Memory.read, Memory.peek, Memory.write, lookupCell_insertCell_other _ _ h]

theorem Memory.wf_write {m : Memory} {a : Nat} (b : Byte) (h : m.wf = true) (ha : inBuffers a = true) :
    (m.write a b).wf = true := by
  simp only [Memory.wf, Bool.and_eq_true] at h ⊢
  refine ⟨risingAbove_insertCell b h.1 ?_, all_insertCell h.2 ha⟩
  simp [inBuffers] at ha
  omega

/-! ### Several bytes -/

@[simp] theorem Memory.writeLE_zero (m : Memory) (a v : Nat) : m.writeLE a 0 v = m := rfl

theorem Memory.writeLE_succ (m : Memory) (a n v : Nat) :
    m.writeLE a (n + 1) v = (m.write a (BitVec.ofNat 8 v)).writeLE (a + 1) n (v / 256) := rfl

theorem Memory.read_writeLE_outside (m : Memory) {a n x : Nat} (v : Nat) (h : x < a ∨ a + n ≤ x) :
    (m.writeLE a n v).read x = m.read x := by
  induction n generalizing m a v with
  | zero => rfl
  | succ n ih =>
    rw [writeLE_succ, ih _ (v / 256) (by omega), read_write_other _ _ (by omega)]

theorem Memory.read_writeLE_inside (m : Memory) (a v : Nat) {n k : Nat} (h : k < n) :
    (m.writeLE a n v).read (a + k) = BitVec.ofNat 8 (v / 256 ^ k) := by
  induction n generalizing m a v k with
  | zero => omega
  | succ n ih =>
    rw [writeLE_succ]
    cases k with
    | zero => rw [read_writeLE_outside _ _ (by omega)]; simpa using read_write_same m a (BitVec.ofNat 8 v)
    | succ k =>
      have h1 : a + (k + 1) = (a + 1) + k := by omega
      rw [h1, ih _ _ _ (by omega), Nat.div_div_eq_div_mul, ← Nat.pow_succ']

theorem Memory.wf_writeLE {m : Memory} {a n : Nat} (v : Nat) (h : m.wf = true)
    (ha : 0x10000 ≤ a) (hn : a + n ≤ 0x30000) : (m.writeLE a n v).wf = true := by
  induction n generalizing m a v with
  | zero => exact h
  | succ n ih =>
    rw [writeLE_succ]
    exact ih _ (wf_write _ h (by simp [inBuffers]; omega)) (by omega) (by omega)

/-- A little-endian read is a function of the bytes it covers. -/
theorem Memory.readLE_congr {m m' : Memory} {a a' n : Nat}
    (h : ∀ k < n, m.read (a + k) = m'.read (a' + k)) : m.readLE a n = m'.readLE a' n := by
  induction n generalizing a a' with
  | zero => rfl
  | succ n ih =>
    have h0 := h 0 (by omega)
    simp only [Nat.add_zero] at h0
    have ht : m.readLE (a + 1) n = m'.readLE (a' + 1) n := ih fun k hk => by
      simpa only [Nat.add_assoc, Nat.add_comm 1 k] using h (k + 1) (by omega)
    simp only [Memory.readLE, h0, ht]

theorem Memory.readLE_lt (m : Memory) (a n : Nat) : m.readLE a n < 256 ^ n := by
  induction n generalizing a with
  | zero => simp [Memory.readLE]
  | succ n ih =>
    have h := ih (a + 1)
    have hb := (m.read a).isLt
    simp only [Memory.readLE, Nat.pow_succ']
    omega

/-- Byte `k` of a little-endian read is the byte read at place `k`. -/
theorem Memory.readLE_byte (m : Memory) (a : Nat) {n k : Nat} (h : k < n) :
    m.readLE a n / 256 ^ k % 256 = (m.read (a + k)).toNat := by
  induction n generalizing a k with
  | zero => omega
  | succ n ih =>
    have hb : (m.read a).toNat < 256 := (m.read a).isLt
    cases k with
    | zero => simp [Memory.readLE, Nat.add_mul_mod_self_left, Nat.mod_eq_of_lt hb]
    | succ k =>
      rw [Nat.pow_succ', ← Nat.div_div_eq_div_mul]
      have h1 : m.readLE a (n + 1) / 256 = m.readLE (a + 1) n := by simp only [Memory.readLE]; omega
      rw [h1, ih (a + 1) (by omega), show a + 1 + k = a + (k + 1) by omega]

theorem Memory.readLE_writeLE_same (m : Memory) (a n v : Nat) :
    (m.writeLE a n v).readLE a n = v % 256 ^ n := by
  induction n generalizing m a v with
  | zero => simp [Memory.readLE, Nat.mod_one]
  | succ n ih =>
    have h0 : (m.writeLE a (n + 1) v).read a = BitVec.ofNat 8 v := by
      simpa using read_writeLE_inside m a v (n := n + 1) (k := 0) (by omega)
    rw [Memory.readLE, h0, writeLE_succ, ih, Nat.pow_succ', Nat.mod_mul]
    simp

theorem Memory.readLE_writeLE_outside (m : Memory) {a n x k : Nat} (v : Nat) (h : x + k ≤ a ∨ a + n ≤ x) :
    (m.writeLE a n v).readLE x k = m.readLE x k :=
  readLE_congr fun i hi => read_writeLE_outside _ _ (by omega)

/-! ### Words -/

theorem Memory.le32_putLe32_same (m : Memory) (a : Nat) (v : Word) : (m.putLe32 a v).le32 a = v := by
  have hv : v.toNat % 256 ^ 4 = v.toNat := Nat.mod_eq_of_lt v.isLt
  rw [Memory.le32, Memory.putLe32, readLE_writeLE_same, hv, BitVec.ofNat_toNat, BitVec.setWidth_eq]

theorem Memory.le32_putLe32_other (m : Memory) {a x : Nat} (v : Word) (h : x + 4 ≤ a ∨ a + 4 ≤ x) :
    (m.putLe32 a v).le32 x = m.le32 x := by
  rw [Memory.le32, Memory.putLe32, readLE_writeLE_outside _ _ h, Memory.le32]

theorem Memory.read_putLe32_outside (m : Memory) {a x : Nat} (v : Word) (h : x < a ∨ a + 4 ≤ x) :
    (m.putLe32 a v).read x = m.read x := read_writeLE_outside _ _ h

/-! ### Unspecified bytes, blocks and folds -/

theorem Memory.read_smear_outside (m : Memory) {k a n x : Nat} (h : x < a ∨ a + n ≤ x) :
    (m.smear k a n).read x = m.read x := by
  induction n generalizing m a with
  | zero => rfl
  | succ n ih => rw [Memory.smear, ih _ (by omega), read_write_other _ _ (by omega)]

theorem Memory.read_smear_inside (m : Memory) {k a n x : Nat} (h1 : a ≤ x) (h2 : x < a + n) :
    (m.smear k a n).read x = Config.abortedByte k x := by
  induction n generalizing m a with
  | zero => omega
  | succ n ih =>
    rw [Memory.smear]
    by_cases h : x = a
    · subst h; rw [read_smear_outside _ (by omega), read_write_same]
    · exact ih _ (by omega) (by omega)

theorem Memory.wf_smear {m : Memory} {k a n : Nat} (h : m.wf = true)
    (ha : n = 0 ∨ (0x10000 ≤ a ∧ a + n ≤ 0x30000)) : (m.smear k a n).wf = true := by
  induction n generalizing m a with
  | zero => exact h
  | succ n ih =>
    rw [Memory.smear]
    exact ih (wf_write _ h (by simp [inBuffers]; omega)) (by omega)

theorem Memory.wf_mapBlocks {f : Block → Block} {m : Memory} {a n : Nat} (h : m.wf = true)
    (ha : 0x10000 ≤ a) (hn : a + 8 * n ≤ 0x30000) : (Memory.mapBlocks f a n m).wf = true := by
  induction n generalizing m a with
  | zero => exact h
  | succ n ih =>
    rw [Memory.mapBlocks]
    exact ih (wf_writeLE _ (wf_writeLE _ h (by omega) (by omega)) (by omega) (by omega)) (by omega) (by omega)

theorem Memory.read_mapBlocks_outside {f : Block → Block} (m : Memory) {a n x : Nat}
    (h : x < a ∨ a + 8 * n ≤ x) : (Memory.mapBlocks f a n m).read x = m.read x := by
  induction n generalizing m a with
  | zero => rfl
  | succ n ih =>
    rw [Memory.mapBlocks, ih _ (by omega), read_putLe32_outside _ _ (by omega),
      read_putLe32_outside _ _ (by omega)]

theorem Memory.foldWords_congr {m m' : Memory} {a n : Nat} (x : Word)
    (h : ∀ k < 4 * n, m.read (a + k) = m'.read (a + k)) : m.foldWords a n x = m'.foldWords a n x := by
  induction n generalizing a x with
  | zero => rfl
  | succ n ih =>
    have h0 : m.le32 a = m'.le32 a := by
      rw [Memory.le32, Memory.le32, readLE_congr fun k hk => h k (by omega)]
    rw [Memory.foldWords, Memory.foldWords, h0]
    exact ih _ fun k hk => by
      rw [show a + 4 + k = a + (k + 4) by omega]; exact h _ (by omega)

end Sys2Proof.Machine
end

