-- ==== Sys2Proof/Laws/State.lean ====
section
/-! SUPPORT. One lemma per field per update of `State`, so that no later proof unfolds an update. -/

namespace Sys2Proof.Machine

@[simp] theorem State.setData_cipher (s : State) (lo hi : Word) : (s.setData lo hi).cipher = s.cipher := rfl
@[simp] theorem State.setData_keyValid (s : State) (lo hi : Word) : (s.setData lo hi).keyValid = s.keyValid := rfl
@[simp] theorem State.setData_key (s : State) (lo hi : Word) : (s.setData lo hi).key = s.key := rfl
@[simp] theorem State.setData_keyLen (s : State) (lo hi : Word) : (s.setData lo hi).keyLen = s.keyLen := rfl
@[simp] theorem State.setData_salt (s : State) (lo hi : Word) : (s.setData lo hi).salt = s.salt := rfl
@[simp] theorem State.setData_saltLen (s : State) (lo hi : Word) : (s.setData lo hi).saltLen = s.saltLen := rfl
@[simp] theorem State.setData_mem (s : State) (lo hi : Word) : (s.setData lo hi).mem = s.mem := rfl
@[simp] theorem State.setData_ie (s : State) (lo hi : Word) : (s.setData lo hi).ie = s.ie := rfl
@[simp] theorem State.setData_busy (s : State) (lo hi : Word) : (s.setData lo hi).busy = s.busy := rfl
@[simp] theorem State.setData_done (s : State) (lo hi : Word) : (s.setData lo hi).done = s.done := rfl
@[simp] theorem State.setData_drop (s : State) (lo hi : Word) : (s.setData lo hi).drop = s.drop := rfl
@[simp] theorem State.setData_busErr (s : State) (lo hi : Word) : (s.setData lo hi).busErr = s.busErr := rfl
@[simp] theorem State.setData_err (s : State) (lo hi : Word) : (s.setData lo hi).err = s.err := rfl
@[simp] theorem State.setData_cmdw (s : State) (lo hi : Word) : (s.setData lo hi).cmdw = s.cmdw := rfl
@[simp] theorem State.setData_roff (s : State) (lo hi : Word) : (s.setData lo hi).roff = s.roff := rfl
@[simp] theorem State.setData_rlen (s : State) (lo hi : Word) : (s.setData lo hi).rlen = s.rlen := rfl
@[simp] theorem State.setData_dataLo (s : State) (lo hi : Word) : (s.setData lo hi).dataLo = lo := rfl
@[simp] theorem State.setData_dataHi (s : State) (lo hi : Word) : (s.setData lo hi).dataHi = hi := rfl
@[simp] theorem State.setData_txLen (s : State) (lo hi : Word) : (s.setData lo hi).txLen = s.txLen := rfl
@[simp] theorem State.setData_rxPos (s : State) (lo hi : Word) : (s.setData lo hi).rxPos = s.rxPos := rfl
@[simp] theorem State.setData_rxLen (s : State) (lo hi : Word) : (s.setData lo hi).rxLen = s.rxLen := rfl
@[simp] theorem State.setData_cksum (s : State) (lo hi : Word) : (s.setData lo hi).cksum = s.cksum := rfl
@[simp] theorem State.setData_agenda (s : State) (lo hi : Word) : (s.setData lo hi).agenda = s.agenda := rfl
@[simp] theorem State.setData_rdata (s : State) (lo hi : Word) : (s.setData lo hi).rdata = s.rdata := rfl
@[simp] theorem State.setData_draws (s : State) (lo hi : Word) : (s.setData lo hi).draws = s.draws := rfl

@[simp] theorem State.setMem_cipher (s : State) (m : Memory) : (s.setMem m).cipher = s.cipher := rfl
@[simp] theorem State.setMem_keyValid (s : State) (m : Memory) : (s.setMem m).keyValid = s.keyValid := rfl
@[simp] theorem State.setMem_key (s : State) (m : Memory) : (s.setMem m).key = s.key := rfl
@[simp] theorem State.setMem_keyLen (s : State) (m : Memory) : (s.setMem m).keyLen = s.keyLen := rfl
@[simp] theorem State.setMem_salt (s : State) (m : Memory) : (s.setMem m).salt = s.salt := rfl
@[simp] theorem State.setMem_saltLen (s : State) (m : Memory) : (s.setMem m).saltLen = s.saltLen := rfl
@[simp] theorem State.setMem_mem (s : State) (m : Memory) : (s.setMem m).mem = m := rfl
@[simp] theorem State.setMem_ie (s : State) (m : Memory) : (s.setMem m).ie = s.ie := rfl
@[simp] theorem State.setMem_busy (s : State) (m : Memory) : (s.setMem m).busy = s.busy := rfl
@[simp] theorem State.setMem_done (s : State) (m : Memory) : (s.setMem m).done = s.done := rfl
@[simp] theorem State.setMem_drop (s : State) (m : Memory) : (s.setMem m).drop = s.drop := rfl
@[simp] theorem State.setMem_busErr (s : State) (m : Memory) : (s.setMem m).busErr = s.busErr := rfl
@[simp] theorem State.setMem_err (s : State) (m : Memory) : (s.setMem m).err = s.err := rfl
@[simp] theorem State.setMem_cmdw (s : State) (m : Memory) : (s.setMem m).cmdw = s.cmdw := rfl
@[simp] theorem State.setMem_roff (s : State) (m : Memory) : (s.setMem m).roff = s.roff := rfl
@[simp] theorem State.setMem_rlen (s : State) (m : Memory) : (s.setMem m).rlen = s.rlen := rfl
@[simp] theorem State.setMem_dataLo (s : State) (m : Memory) : (s.setMem m).dataLo = s.dataLo := rfl
@[simp] theorem State.setMem_dataHi (s : State) (m : Memory) : (s.setMem m).dataHi = s.dataHi := rfl
@[simp] theorem State.setMem_txLen (s : State) (m : Memory) : (s.setMem m).txLen = s.txLen := rfl
@[simp] theorem State.setMem_rxPos (s : State) (m : Memory) : (s.setMem m).rxPos = s.rxPos := rfl
@[simp] theorem State.setMem_rxLen (s : State) (m : Memory) : (s.setMem m).rxLen = s.rxLen := rfl
@[simp] theorem State.setMem_cksum (s : State) (m : Memory) : (s.setMem m).cksum = s.cksum := rfl
@[simp] theorem State.setMem_agenda (s : State) (m : Memory) : (s.setMem m).agenda = s.agenda := rfl
@[simp] theorem State.setMem_rdata (s : State) (m : Memory) : (s.setMem m).rdata = s.rdata := rfl
@[simp] theorem State.setMem_draws (s : State) (m : Memory) : (s.setMem m).draws = s.draws := rfl

@[simp] theorem State.setTxLen_cipher (s : State) (n : Nat) : (s.setTxLen n).cipher = s.cipher := rfl
@[simp] theorem State.setTxLen_keyValid (s : State) (n : Nat) : (s.setTxLen n).keyValid = s.keyValid := rfl
@[simp] theorem State.setTxLen_key (s : State) (n : Nat) : (s.setTxLen n).key = s.key := rfl
@[simp] theorem State.setTxLen_keyLen (s : State) (n : Nat) : (s.setTxLen n).keyLen = s.keyLen := rfl
@[simp] theorem State.setTxLen_salt (s : State) (n : Nat) : (s.setTxLen n).salt = s.salt := rfl
@[simp] theorem State.setTxLen_saltLen (s : State) (n : Nat) : (s.setTxLen n).saltLen = s.saltLen := rfl
@[simp] theorem State.setTxLen_mem (s : State) (n : Nat) : (s.setTxLen n).mem = s.mem := rfl
@[simp] theorem State.setTxLen_ie (s : State) (n : Nat) : (s.setTxLen n).ie = s.ie := rfl
@[simp] theorem State.setTxLen_busy (s : State) (n : Nat) : (s.setTxLen n).busy = s.busy := rfl
@[simp] theorem State.setTxLen_done (s : State) (n : Nat) : (s.setTxLen n).done = s.done := rfl
@[simp] theorem State.setTxLen_drop (s : State) (n : Nat) : (s.setTxLen n).drop = s.drop := rfl
@[simp] theorem State.setTxLen_busErr (s : State) (n : Nat) : (s.setTxLen n).busErr = s.busErr := rfl
@[simp] theorem State.setTxLen_err (s : State) (n : Nat) : (s.setTxLen n).err = s.err := rfl
@[simp] theorem State.setTxLen_cmdw (s : State) (n : Nat) : (s.setTxLen n).cmdw = s.cmdw := rfl
@[simp] theorem State.setTxLen_roff (s : State) (n : Nat) : (s.setTxLen n).roff = s.roff := rfl
@[simp] theorem State.setTxLen_rlen (s : State) (n : Nat) : (s.setTxLen n).rlen = s.rlen := rfl
@[simp] theorem State.setTxLen_dataLo (s : State) (n : Nat) : (s.setTxLen n).dataLo = s.dataLo := rfl
@[simp] theorem State.setTxLen_dataHi (s : State) (n : Nat) : (s.setTxLen n).dataHi = s.dataHi := rfl
@[simp] theorem State.setTxLen_txLen (s : State) (n : Nat) : (s.setTxLen n).txLen = BitVec.ofNat 17 n := rfl
@[simp] theorem State.setTxLen_rxPos (s : State) (n : Nat) : (s.setTxLen n).rxPos = s.rxPos := rfl
@[simp] theorem State.setTxLen_rxLen (s : State) (n : Nat) : (s.setTxLen n).rxLen = s.rxLen := rfl
@[simp] theorem State.setTxLen_cksum (s : State) (n : Nat) : (s.setTxLen n).cksum = s.cksum := rfl
@[simp] theorem State.setTxLen_agenda (s : State) (n : Nat) : (s.setTxLen n).agenda = s.agenda := rfl
@[simp] theorem State.setTxLen_rdata (s : State) (n : Nat) : (s.setTxLen n).rdata = s.rdata := rfl
@[simp] theorem State.setTxLen_draws (s : State) (n : Nat) : (s.setTxLen n).draws = s.draws := rfl

@[simp] theorem State.setRxPos_cipher (s : State) (n : Nat) : (s.setRxPos n).cipher = s.cipher := rfl
@[simp] theorem State.setRxPos_keyValid (s : State) (n : Nat) : (s.setRxPos n).keyValid = s.keyValid := rfl
@[simp] theorem State.setRxPos_key (s : State) (n : Nat) : (s.setRxPos n).key = s.key := rfl
@[simp] theorem State.setRxPos_keyLen (s : State) (n : Nat) : (s.setRxPos n).keyLen = s.keyLen := rfl
@[simp] theorem State.setRxPos_salt (s : State) (n : Nat) : (s.setRxPos n).salt = s.salt := rfl
@[simp] theorem State.setRxPos_saltLen (s : State) (n : Nat) : (s.setRxPos n).saltLen = s.saltLen := rfl
@[simp] theorem State.setRxPos_mem (s : State) (n : Nat) : (s.setRxPos n).mem = s.mem := rfl
@[simp] theorem State.setRxPos_ie (s : State) (n : Nat) : (s.setRxPos n).ie = s.ie := rfl
@[simp] theorem State.setRxPos_busy (s : State) (n : Nat) : (s.setRxPos n).busy = s.busy := rfl
@[simp] theorem State.setRxPos_done (s : State) (n : Nat) : (s.setRxPos n).done = s.done := rfl
@[simp] theorem State.setRxPos_drop (s : State) (n : Nat) : (s.setRxPos n).drop = s.drop := rfl
@[simp] theorem State.setRxPos_busErr (s : State) (n : Nat) : (s.setRxPos n).busErr = s.busErr := rfl
@[simp] theorem State.setRxPos_err (s : State) (n : Nat) : (s.setRxPos n).err = s.err := rfl
@[simp] theorem State.setRxPos_cmdw (s : State) (n : Nat) : (s.setRxPos n).cmdw = s.cmdw := rfl
@[simp] theorem State.setRxPos_roff (s : State) (n : Nat) : (s.setRxPos n).roff = s.roff := rfl
@[simp] theorem State.setRxPos_rlen (s : State) (n : Nat) : (s.setRxPos n).rlen = s.rlen := rfl
@[simp] theorem State.setRxPos_dataLo (s : State) (n : Nat) : (s.setRxPos n).dataLo = s.dataLo := rfl
@[simp] theorem State.setRxPos_dataHi (s : State) (n : Nat) : (s.setRxPos n).dataHi = s.dataHi := rfl
@[simp] theorem State.setRxPos_txLen (s : State) (n : Nat) : (s.setRxPos n).txLen = s.txLen := rfl
@[simp] theorem State.setRxPos_rxPos (s : State) (n : Nat) : (s.setRxPos n).rxPos = BitVec.ofNat 17 n := rfl
@[simp] theorem State.setRxPos_rxLen (s : State) (n : Nat) : (s.setRxPos n).rxLen = s.rxLen := rfl
@[simp] theorem State.setRxPos_cksum (s : State) (n : Nat) : (s.setRxPos n).cksum = s.cksum := rfl
@[simp] theorem State.setRxPos_agenda (s : State) (n : Nat) : (s.setRxPos n).agenda = s.agenda := rfl
@[simp] theorem State.setRxPos_rdata (s : State) (n : Nat) : (s.setRxPos n).rdata = s.rdata := rfl
@[simp] theorem State.setRxPos_draws (s : State) (n : Nat) : (s.setRxPos n).draws = s.draws := rfl

@[simp] theorem State.setRange_cipher (s : State) (off n : Nat) : (s.setRange off n).cipher = s.cipher := rfl
@[simp] theorem State.setRange_keyValid (s : State) (off n : Nat) : (s.setRange off n).keyValid = s.keyValid := rfl
@[simp] theorem State.setRange_key (s : State) (off n : Nat) : (s.setRange off n).key = s.key := rfl
@[simp] theorem State.setRange_keyLen (s : State) (off n : Nat) : (s.setRange off n).keyLen = s.keyLen := rfl
@[simp] theorem State.setRange_salt (s : State) (off n : Nat) : (s.setRange off n).salt = s.salt := rfl
@[simp] theorem State.setRange_saltLen (s : State) (off n : Nat) : (s.setRange off n).saltLen = s.saltLen := rfl
@[simp] theorem State.setRange_mem (s : State) (off n : Nat) : (s.setRange off n).mem = s.mem := rfl
@[simp] theorem State.setRange_ie (s : State) (off n : Nat) : (s.setRange off n).ie = s.ie := rfl
@[simp] theorem State.setRange_busy (s : State) (off n : Nat) : (s.setRange off n).busy = s.busy := rfl
@[simp] theorem State.setRange_done (s : State) (off n : Nat) : (s.setRange off n).done = s.done := rfl
@[simp] theorem State.setRange_drop (s : State) (off n : Nat) : (s.setRange off n).drop = s.drop := rfl
@[simp] theorem State.setRange_busErr (s : State) (off n : Nat) : (s.setRange off n).busErr = s.busErr := rfl
@[simp] theorem State.setRange_err (s : State) (off n : Nat) : (s.setRange off n).err = s.err := rfl
@[simp] theorem State.setRange_cmdw (s : State) (off n : Nat) : (s.setRange off n).cmdw = s.cmdw := rfl
@[simp] theorem State.setRange_roff (s : State) (off n : Nat) : (s.setRange off n).roff = BitVec.ofNat 16 off := rfl
@[simp] theorem State.setRange_rlen (s : State) (off n : Nat) : (s.setRange off n).rlen = BitVec.ofNat 17 n := rfl
@[simp] theorem State.setRange_dataLo (s : State) (off n : Nat) : (s.setRange off n).dataLo = s.dataLo := rfl
@[simp] theorem State.setRange_dataHi (s : State) (off n : Nat) : (s.setRange off n).dataHi = s.dataHi := rfl
@[simp] theorem State.setRange_txLen (s : State) (off n : Nat) : (s.setRange off n).txLen = s.txLen := rfl
@[simp] theorem State.setRange_rxPos (s : State) (off n : Nat) : (s.setRange off n).rxPos = s.rxPos := rfl
@[simp] theorem State.setRange_rxLen (s : State) (off n : Nat) : (s.setRange off n).rxLen = s.rxLen := rfl
@[simp] theorem State.setRange_cksum (s : State) (off n : Nat) : (s.setRange off n).cksum = s.cksum := rfl
@[simp] theorem State.setRange_agenda (s : State) (off n : Nat) : (s.setRange off n).agenda = s.agenda := rfl
@[simp] theorem State.setRange_rdata (s : State) (off n : Nat) : (s.setRange off n).rdata = s.rdata := rfl
@[simp] theorem State.setRange_draws (s : State) (off n : Nat) : (s.setRange off n).draws = s.draws := rfl

@[simp] theorem State.setCksum_cipher (s : State) (x : Word) : (s.setCksum x).cipher = s.cipher := rfl
@[simp] theorem State.setCksum_keyValid (s : State) (x : Word) : (s.setCksum x).keyValid = s.keyValid := rfl
@[simp] theorem State.setCksum_key (s : State) (x : Word) : (s.setCksum x).key = s.key := rfl
@[simp] theorem State.setCksum_keyLen (s : State) (x : Word) : (s.setCksum x).keyLen = s.keyLen := rfl
@[simp] theorem State.setCksum_salt (s : State) (x : Word) : (s.setCksum x).salt = s.salt := rfl
@[simp] theorem State.setCksum_saltLen (s : State) (x : Word) : (s.setCksum x).saltLen = s.saltLen := rfl
@[simp] theorem State.setCksum_mem (s : State) (x : Word) : (s.setCksum x).mem = s.mem := rfl
@[simp] theorem State.setCksum_ie (s : State) (x : Word) : (s.setCksum x).ie = s.ie := rfl
@[simp] theorem State.setCksum_busy (s : State) (x : Word) : (s.setCksum x).busy = s.busy := rfl
@[simp] theorem State.setCksum_done (s : State) (x : Word) : (s.setCksum x).done = s.done := rfl
@[simp] theorem State.setCksum_drop (s : State) (x : Word) : (s.setCksum x).drop = s.drop := rfl
@[simp] theorem State.setCksum_busErr (s : State) (x : Word) : (s.setCksum x).busErr = s.busErr := rfl
@[simp] theorem State.setCksum_err (s : State) (x : Word) : (s.setCksum x).err = s.err := rfl
@[simp] theorem State.setCksum_cmdw (s : State) (x : Word) : (s.setCksum x).cmdw = s.cmdw := rfl
@[simp] theorem State.setCksum_roff (s : State) (x : Word) : (s.setCksum x).roff = s.roff := rfl
@[simp] theorem State.setCksum_rlen (s : State) (x : Word) : (s.setCksum x).rlen = s.rlen := rfl
@[simp] theorem State.setCksum_dataLo (s : State) (x : Word) : (s.setCksum x).dataLo = s.dataLo := rfl
@[simp] theorem State.setCksum_dataHi (s : State) (x : Word) : (s.setCksum x).dataHi = s.dataHi := rfl
@[simp] theorem State.setCksum_txLen (s : State) (x : Word) : (s.setCksum x).txLen = s.txLen := rfl
@[simp] theorem State.setCksum_rxPos (s : State) (x : Word) : (s.setCksum x).rxPos = s.rxPos := rfl
@[simp] theorem State.setCksum_rxLen (s : State) (x : Word) : (s.setCksum x).rxLen = s.rxLen := rfl
@[simp] theorem State.setCksum_cksum (s : State) (x : Word) : (s.setCksum x).cksum = x := rfl
@[simp] theorem State.setCksum_agenda (s : State) (x : Word) : (s.setCksum x).agenda = s.agenda := rfl
@[simp] theorem State.setCksum_rdata (s : State) (x : Word) : (s.setCksum x).rdata = s.rdata := rfl
@[simp] theorem State.setCksum_draws (s : State) (x : Word) : (s.setCksum x).draws = s.draws := rfl

@[simp] theorem State.installCipher_cipher (s : State) (c : CipherState) : (s.installCipher c).cipher = c := rfl
@[simp] theorem State.installCipher_keyValid (s : State) (c : CipherState) : (s.installCipher c).keyValid = true := rfl
@[simp] theorem State.installCipher_key (s : State) (c : CipherState) : (s.installCipher c).key = s.key := rfl
@[simp] theorem State.installCipher_keyLen (s : State) (c : CipherState) : (s.installCipher c).keyLen = s.keyLen := rfl
@[simp] theorem State.installCipher_salt (s : State) (c : CipherState) : (s.installCipher c).salt = s.salt := rfl
@[simp] theorem State.installCipher_saltLen (s : State) (c : CipherState) : (s.installCipher c).saltLen = s.saltLen := rfl
@[simp] theorem State.installCipher_mem (s : State) (c : CipherState) : (s.installCipher c).mem = s.mem := rfl
@[simp] theorem State.installCipher_ie (s : State) (c : CipherState) : (s.installCipher c).ie = s.ie := rfl
@[simp] theorem State.installCipher_busy (s : State) (c : CipherState) : (s.installCipher c).busy = s.busy := rfl
@[simp] theorem State.installCipher_done (s : State) (c : CipherState) : (s.installCipher c).done = s.done := rfl
@[simp] theorem State.installCipher_drop (s : State) (c : CipherState) : (s.installCipher c).drop = s.drop := rfl
@[simp] theorem State.installCipher_busErr (s : State) (c : CipherState) : (s.installCipher c).busErr = s.busErr := rfl
@[simp] theorem State.installCipher_err (s : State) (c : CipherState) : (s.installCipher c).err = s.err := rfl
@[simp] theorem State.installCipher_cmdw (s : State) (c : CipherState) : (s.installCipher c).cmdw = s.cmdw := rfl
@[simp] theorem State.installCipher_roff (s : State) (c : CipherState) : (s.installCipher c).roff = s.roff := rfl
@[simp] theorem State.installCipher_rlen (s : State) (c : CipherState) : (s.installCipher c).rlen = s.rlen := rfl
@[simp] theorem State.installCipher_dataLo (s : State) (c : CipherState) : (s.installCipher c).dataLo = s.dataLo := rfl
@[simp] theorem State.installCipher_dataHi (s : State) (c : CipherState) : (s.installCipher c).dataHi = s.dataHi := rfl
@[simp] theorem State.installCipher_txLen (s : State) (c : CipherState) : (s.installCipher c).txLen = s.txLen := rfl
@[simp] theorem State.installCipher_rxPos (s : State) (c : CipherState) : (s.installCipher c).rxPos = s.rxPos := rfl
@[simp] theorem State.installCipher_rxLen (s : State) (c : CipherState) : (s.installCipher c).rxLen = s.rxLen := rfl
@[simp] theorem State.installCipher_cksum (s : State) (c : CipherState) : (s.installCipher c).cksum = s.cksum := rfl
@[simp] theorem State.installCipher_agenda (s : State) (c : CipherState) : (s.installCipher c).agenda = s.agenda := rfl
@[simp] theorem State.installCipher_rdata (s : State) (c : CipherState) : (s.installCipher c).rdata = s.rdata := rfl
@[simp] theorem State.installCipher_draws (s : State) (c : CipherState) : (s.installCipher c).draws = s.draws := rfl

@[simp] theorem State.invalidateKey_cipher (s : State) : (s.invalidateKey).cipher = s.cipher := rfl
@[simp] theorem State.invalidateKey_keyValid (s : State) : (s.invalidateKey).keyValid = false := rfl
@[simp] theorem State.invalidateKey_key (s : State) : (s.invalidateKey).key = s.key := rfl
@[simp] theorem State.invalidateKey_keyLen (s : State) : (s.invalidateKey).keyLen = s.keyLen := rfl
@[simp] theorem State.invalidateKey_salt (s : State) : (s.invalidateKey).salt = s.salt := rfl
@[simp] theorem State.invalidateKey_saltLen (s : State) : (s.invalidateKey).saltLen = s.saltLen := rfl
@[simp] theorem State.invalidateKey_mem (s : State) : (s.invalidateKey).mem = s.mem := rfl
@[simp] theorem State.invalidateKey_ie (s : State) : (s.invalidateKey).ie = s.ie := rfl
@[simp] theorem State.invalidateKey_busy (s : State) : (s.invalidateKey).busy = s.busy := rfl
@[simp] theorem State.invalidateKey_done (s : State) : (s.invalidateKey).done = s.done := rfl
@[simp] theorem State.invalidateKey_drop (s : State) : (s.invalidateKey).drop = s.drop := rfl
@[simp] theorem State.invalidateKey_busErr (s : State) : (s.invalidateKey).busErr = s.busErr := rfl
@[simp] theorem State.invalidateKey_err (s : State) : (s.invalidateKey).err = s.err := rfl
@[simp] theorem State.invalidateKey_cmdw (s : State) : (s.invalidateKey).cmdw = s.cmdw := rfl
@[simp] theorem State.invalidateKey_roff (s : State) : (s.invalidateKey).roff = s.roff := rfl
@[simp] theorem State.invalidateKey_rlen (s : State) : (s.invalidateKey).rlen = s.rlen := rfl
@[simp] theorem State.invalidateKey_dataLo (s : State) : (s.invalidateKey).dataLo = s.dataLo := rfl
@[simp] theorem State.invalidateKey_dataHi (s : State) : (s.invalidateKey).dataHi = s.dataHi := rfl
@[simp] theorem State.invalidateKey_txLen (s : State) : (s.invalidateKey).txLen = s.txLen := rfl
@[simp] theorem State.invalidateKey_rxPos (s : State) : (s.invalidateKey).rxPos = s.rxPos := rfl
@[simp] theorem State.invalidateKey_rxLen (s : State) : (s.invalidateKey).rxLen = s.rxLen := rfl
@[simp] theorem State.invalidateKey_cksum (s : State) : (s.invalidateKey).cksum = s.cksum := rfl
@[simp] theorem State.invalidateKey_agenda (s : State) : (s.invalidateKey).agenda = s.agenda := rfl
@[simp] theorem State.invalidateKey_rdata (s : State) : (s.invalidateKey).rdata = s.rdata := rfl
@[simp] theorem State.invalidateKey_draws (s : State) : (s.invalidateKey).draws = s.draws := rfl

@[simp] theorem State.zeroize_cipher (s : State) : (s.zeroize).cipher = s.cipher := rfl
@[simp] theorem State.zeroize_keyValid (s : State) : (s.zeroize).keyValid = s.keyValid := rfl
@[simp] theorem State.zeroize_key (s : State) : (s.zeroize).key = Vector.replicate 56 0 := rfl
@[simp] theorem State.zeroize_keyLen (s : State) : (s.zeroize).keyLen = 0 := rfl
@[simp] theorem State.zeroize_salt (s : State) : (s.zeroize).salt = Vector.replicate 56 0 := rfl
@[simp] theorem State.zeroize_saltLen (s : State) : (s.zeroize).saltLen = 0 := rfl
@[simp] theorem State.zeroize_mem (s : State) : (s.zeroize).mem = s.mem := rfl
@[simp] theorem State.zeroize_ie (s : State) : (s.zeroize).ie = s.ie := rfl
@[simp] theorem State.zeroize_busy (s : State) : (s.zeroize).busy = s.busy := rfl
@[simp] theorem State.zeroize_done (s : State) : (s.zeroize).done = s.done := rfl
@[simp] theorem State.zeroize_drop (s : State) : (s.zeroize).drop = s.drop := rfl
@[simp] theorem State.zeroize_busErr (s : State) : (s.zeroize).busErr = s.busErr := rfl
@[simp] theorem State.zeroize_err (s : State) : (s.zeroize).err = s.err := rfl
@[simp] theorem State.zeroize_cmdw (s : State) : (s.zeroize).cmdw = s.cmdw := rfl
@[simp] theorem State.zeroize_roff (s : State) : (s.zeroize).roff = s.roff := rfl
@[simp] theorem State.zeroize_rlen (s : State) : (s.zeroize).rlen = s.rlen := rfl
@[simp] theorem State.zeroize_dataLo (s : State) : (s.zeroize).dataLo = s.dataLo := rfl
@[simp] theorem State.zeroize_dataHi (s : State) : (s.zeroize).dataHi = s.dataHi := rfl
@[simp] theorem State.zeroize_txLen (s : State) : (s.zeroize).txLen = s.txLen := rfl
@[simp] theorem State.zeroize_rxPos (s : State) : (s.zeroize).rxPos = s.rxPos := rfl
@[simp] theorem State.zeroize_rxLen (s : State) : (s.zeroize).rxLen = s.rxLen := rfl
@[simp] theorem State.zeroize_cksum (s : State) : (s.zeroize).cksum = s.cksum := rfl
@[simp] theorem State.zeroize_agenda (s : State) : (s.zeroize).agenda = s.agenda := rfl
@[simp] theorem State.zeroize_rdata (s : State) : (s.zeroize).rdata = s.rdata := rfl
@[simp] theorem State.zeroize_draws (s : State) : (s.zeroize).draws = s.draws := rfl

@[simp] theorem State.complete_cipher (s : State) (e : ErrCode) : (s.complete e).cipher = s.cipher := rfl
@[simp] theorem State.complete_keyValid (s : State) (e : ErrCode) : (s.complete e).keyValid = s.keyValid := rfl
@[simp] theorem State.complete_key (s : State) (e : ErrCode) : (s.complete e).key = s.key := rfl
@[simp] theorem State.complete_keyLen (s : State) (e : ErrCode) : (s.complete e).keyLen = s.keyLen := rfl
@[simp] theorem State.complete_salt (s : State) (e : ErrCode) : (s.complete e).salt = s.salt := rfl
@[simp] theorem State.complete_saltLen (s : State) (e : ErrCode) : (s.complete e).saltLen = s.saltLen := rfl
@[simp] theorem State.complete_mem (s : State) (e : ErrCode) : (s.complete e).mem = s.mem := rfl
@[simp] theorem State.complete_ie (s : State) (e : ErrCode) : (s.complete e).ie = s.ie := rfl
@[simp] theorem State.complete_busy (s : State) (e : ErrCode) : (s.complete e).busy = false := rfl
@[simp] theorem State.complete_done (s : State) (e : ErrCode) : (s.complete e).done = true := rfl
@[simp] theorem State.complete_drop (s : State) (e : ErrCode) : (s.complete e).drop = s.drop := rfl
@[simp] theorem State.complete_busErr (s : State) (e : ErrCode) : (s.complete e).busErr = s.busErr := rfl
@[simp] theorem State.complete_err (s : State) (e : ErrCode) : (s.complete e).err = e := rfl
@[simp] theorem State.complete_cmdw (s : State) (e : ErrCode) : (s.complete e).cmdw = s.cmdw := rfl
@[simp] theorem State.complete_roff (s : State) (e : ErrCode) : (s.complete e).roff = s.roff := rfl
@[simp] theorem State.complete_rlen (s : State) (e : ErrCode) : (s.complete e).rlen = s.rlen := rfl
@[simp] theorem State.complete_dataLo (s : State) (e : ErrCode) : (s.complete e).dataLo = s.dataLo := rfl
@[simp] theorem State.complete_dataHi (s : State) (e : ErrCode) : (s.complete e).dataHi = s.dataHi := rfl
@[simp] theorem State.complete_txLen (s : State) (e : ErrCode) : (s.complete e).txLen = s.txLen := rfl
@[simp] theorem State.complete_rxPos (s : State) (e : ErrCode) : (s.complete e).rxPos = s.rxPos := rfl
@[simp] theorem State.complete_rxLen (s : State) (e : ErrCode) : (s.complete e).rxLen = s.rxLen := rfl
@[simp] theorem State.complete_cksum (s : State) (e : ErrCode) : (s.complete e).cksum = s.cksum := rfl
@[simp] theorem State.complete_agenda (s : State) (e : ErrCode) : (s.complete e).agenda = s.agenda := rfl
@[simp] theorem State.complete_rdata (s : State) (e : ErrCode) : (s.complete e).rdata = s.rdata := rfl
@[simp] theorem State.complete_draws (s : State) (e : ErrCode) : (s.complete e).draws = s.draws := rfl

@[simp] theorem State.issue_cipher (s : State) (w : Word) : (s.issue w).cipher = s.cipher := rfl
@[simp] theorem State.issue_keyValid (s : State) (w : Word) : (s.issue w).keyValid = s.keyValid := rfl
@[simp] theorem State.issue_key (s : State) (w : Word) : (s.issue w).key = s.key := rfl
@[simp] theorem State.issue_keyLen (s : State) (w : Word) : (s.issue w).keyLen = s.keyLen := rfl
@[simp] theorem State.issue_salt (s : State) (w : Word) : (s.issue w).salt = s.salt := rfl
@[simp] theorem State.issue_saltLen (s : State) (w : Word) : (s.issue w).saltLen = s.saltLen := rfl
@[simp] theorem State.issue_mem (s : State) (w : Word) : (s.issue w).mem = s.mem := rfl
@[simp] theorem State.issue_ie (s : State) (w : Word) : (s.issue w).ie = s.ie := rfl
@[simp] theorem State.issue_busy (s : State) (w : Word) : (s.issue w).busy = true := rfl
@[simp] theorem State.issue_done (s : State) (w : Word) : (s.issue w).done = s.done := rfl
@[simp] theorem State.issue_drop (s : State) (w : Word) : (s.issue w).drop = s.drop := rfl
@[simp] theorem State.issue_busErr (s : State) (w : Word) : (s.issue w).busErr = s.busErr := rfl
@[simp] theorem State.issue_err (s : State) (w : Word) : (s.issue w).err = s.err := rfl
@[simp] theorem State.issue_cmdw (s : State) (w : Word) : (s.issue w).cmdw = w := rfl
@[simp] theorem State.issue_roff (s : State) (w : Word) : (s.issue w).roff = s.roff := rfl
@[simp] theorem State.issue_rlen (s : State) (w : Word) : (s.issue w).rlen = s.rlen := rfl
@[simp] theorem State.issue_dataLo (s : State) (w : Word) : (s.issue w).dataLo = s.dataLo := rfl
@[simp] theorem State.issue_dataHi (s : State) (w : Word) : (s.issue w).dataHi = s.dataHi := rfl
@[simp] theorem State.issue_txLen (s : State) (w : Word) : (s.issue w).txLen = s.txLen := rfl
@[simp] theorem State.issue_rxPos (s : State) (w : Word) : (s.issue w).rxPos = s.rxPos := rfl
@[simp] theorem State.issue_rxLen (s : State) (w : Word) : (s.issue w).rxLen = s.rxLen := rfl
@[simp] theorem State.issue_cksum (s : State) (w : Word) : (s.issue w).cksum = s.cksum := rfl
@[simp] theorem State.issue_agenda (s : State) (w : Word) : (s.issue w).agenda = s.agenda := rfl
@[simp] theorem State.issue_rdata (s : State) (w : Word) : (s.issue w).rdata = s.rdata := rfl
@[simp] theorem State.issue_draws (s : State) (w : Word) : (s.issue w).draws = s.draws := rfl

@[simp] theorem State.setAgenda_cipher (s : State) (l : List Turn) : (s.setAgenda l).cipher = s.cipher := rfl
@[simp] theorem State.setAgenda_keyValid (s : State) (l : List Turn) : (s.setAgenda l).keyValid = s.keyValid := rfl
@[simp] theorem State.setAgenda_key (s : State) (l : List Turn) : (s.setAgenda l).key = s.key := rfl
@[simp] theorem State.setAgenda_keyLen (s : State) (l : List Turn) : (s.setAgenda l).keyLen = s.keyLen := rfl
@[simp] theorem State.setAgenda_salt (s : State) (l : List Turn) : (s.setAgenda l).salt = s.salt := rfl
@[simp] theorem State.setAgenda_saltLen (s : State) (l : List Turn) : (s.setAgenda l).saltLen = s.saltLen := rfl
@[simp] theorem State.setAgenda_mem (s : State) (l : List Turn) : (s.setAgenda l).mem = s.mem := rfl
@[simp] theorem State.setAgenda_ie (s : State) (l : List Turn) : (s.setAgenda l).ie = s.ie := rfl
@[simp] theorem State.setAgenda_busy (s : State) (l : List Turn) : (s.setAgenda l).busy = s.busy := rfl
@[simp] theorem State.setAgenda_done (s : State) (l : List Turn) : (s.setAgenda l).done = s.done := rfl
@[simp] theorem State.setAgenda_drop (s : State) (l : List Turn) : (s.setAgenda l).drop = s.drop := rfl
@[simp] theorem State.setAgenda_busErr (s : State) (l : List Turn) : (s.setAgenda l).busErr = s.busErr := rfl
@[simp] theorem State.setAgenda_err (s : State) (l : List Turn) : (s.setAgenda l).err = s.err := rfl
@[simp] theorem State.setAgenda_cmdw (s : State) (l : List Turn) : (s.setAgenda l).cmdw = s.cmdw := rfl
@[simp] theorem State.setAgenda_roff (s : State) (l : List Turn) : (s.setAgenda l).roff = s.roff := rfl
@[simp] theorem State.setAgenda_rlen (s : State) (l : List Turn) : (s.setAgenda l).rlen = s.rlen := rfl
@[simp] theorem State.setAgenda_dataLo (s : State) (l : List Turn) : (s.setAgenda l).dataLo = s.dataLo := rfl
@[simp] theorem State.setAgenda_dataHi (s : State) (l : List Turn) : (s.setAgenda l).dataHi = s.dataHi := rfl
@[simp] theorem State.setAgenda_txLen (s : State) (l : List Turn) : (s.setAgenda l).txLen = s.txLen := rfl
@[simp] theorem State.setAgenda_rxPos (s : State) (l : List Turn) : (s.setAgenda l).rxPos = s.rxPos := rfl
@[simp] theorem State.setAgenda_rxLen (s : State) (l : List Turn) : (s.setAgenda l).rxLen = s.rxLen := rfl
@[simp] theorem State.setAgenda_cksum (s : State) (l : List Turn) : (s.setAgenda l).cksum = s.cksum := rfl
@[simp] theorem State.setAgenda_agenda (s : State) (l : List Turn) : (s.setAgenda l).agenda = l := rfl
@[simp] theorem State.setAgenda_rdata (s : State) (l : List Turn) : (s.setAgenda l).rdata = s.rdata := rfl
@[simp] theorem State.setAgenda_draws (s : State) (l : List Turn) : (s.setAgenda l).draws = s.draws := rfl

@[simp] theorem State.setRdata_cipher (s : State) (v : Word) : (s.setRdata v).cipher = s.cipher := rfl
@[simp] theorem State.setRdata_keyValid (s : State) (v : Word) : (s.setRdata v).keyValid = s.keyValid := rfl
@[simp] theorem State.setRdata_key (s : State) (v : Word) : (s.setRdata v).key = s.key := rfl
@[simp] theorem State.setRdata_keyLen (s : State) (v : Word) : (s.setRdata v).keyLen = s.keyLen := rfl
@[simp] theorem State.setRdata_salt (s : State) (v : Word) : (s.setRdata v).salt = s.salt := rfl
@[simp] theorem State.setRdata_saltLen (s : State) (v : Word) : (s.setRdata v).saltLen = s.saltLen := rfl
@[simp] theorem State.setRdata_mem (s : State) (v : Word) : (s.setRdata v).mem = s.mem := rfl
@[simp] theorem State.setRdata_ie (s : State) (v : Word) : (s.setRdata v).ie = s.ie := rfl
@[simp] theorem State.setRdata_busy (s : State) (v : Word) : (s.setRdata v).busy = s.busy := rfl
@[simp] theorem State.setRdata_done (s : State) (v : Word) : (s.setRdata v).done = s.done := rfl
@[simp] theorem State.setRdata_drop (s : State) (v : Word) : (s.setRdata v).drop = s.drop := rfl
@[simp] theorem State.setRdata_busErr (s : State) (v : Word) : (s.setRdata v).busErr = s.busErr := rfl
@[simp] theorem State.setRdata_err (s : State) (v : Word) : (s.setRdata v).err = s.err := rfl
@[simp] theorem State.setRdata_cmdw (s : State) (v : Word) : (s.setRdata v).cmdw = s.cmdw := rfl
@[simp] theorem State.setRdata_roff (s : State) (v : Word) : (s.setRdata v).roff = s.roff := rfl
@[simp] theorem State.setRdata_rlen (s : State) (v : Word) : (s.setRdata v).rlen = s.rlen := rfl
@[simp] theorem State.setRdata_dataLo (s : State) (v : Word) : (s.setRdata v).dataLo = s.dataLo := rfl
@[simp] theorem State.setRdata_dataHi (s : State) (v : Word) : (s.setRdata v).dataHi = s.dataHi := rfl
@[simp] theorem State.setRdata_txLen (s : State) (v : Word) : (s.setRdata v).txLen = s.txLen := rfl
@[simp] theorem State.setRdata_rxPos (s : State) (v : Word) : (s.setRdata v).rxPos = s.rxPos := rfl
@[simp] theorem State.setRdata_rxLen (s : State) (v : Word) : (s.setRdata v).rxLen = s.rxLen := rfl
@[simp] theorem State.setRdata_cksum (s : State) (v : Word) : (s.setRdata v).cksum = s.cksum := rfl
@[simp] theorem State.setRdata_agenda (s : State) (v : Word) : (s.setRdata v).agenda = s.agenda := rfl
@[simp] theorem State.setRdata_rdata (s : State) (v : Word) : (s.setRdata v).rdata = v := rfl
@[simp] theorem State.setRdata_draws (s : State) (v : Word) : (s.setRdata v).draws = s.draws := rfl

@[simp] theorem State.countDraw_cipher (s : State) : (s.countDraw).cipher = s.cipher := rfl
@[simp] theorem State.countDraw_keyValid (s : State) : (s.countDraw).keyValid = s.keyValid := rfl
@[simp] theorem State.countDraw_key (s : State) : (s.countDraw).key = s.key := rfl
@[simp] theorem State.countDraw_keyLen (s : State) : (s.countDraw).keyLen = s.keyLen := rfl
@[simp] theorem State.countDraw_salt (s : State) : (s.countDraw).salt = s.salt := rfl
@[simp] theorem State.countDraw_saltLen (s : State) : (s.countDraw).saltLen = s.saltLen := rfl
@[simp] theorem State.countDraw_mem (s : State) : (s.countDraw).mem = s.mem := rfl
@[simp] theorem State.countDraw_ie (s : State) : (s.countDraw).ie = s.ie := rfl
@[simp] theorem State.countDraw_busy (s : State) : (s.countDraw).busy = s.busy := rfl
@[simp] theorem State.countDraw_done (s : State) : (s.countDraw).done = s.done := rfl
@[simp] theorem State.countDraw_drop (s : State) : (s.countDraw).drop = s.drop := rfl
@[simp] theorem State.countDraw_busErr (s : State) : (s.countDraw).busErr = s.busErr := rfl
@[simp] theorem State.countDraw_err (s : State) : (s.countDraw).err = s.err := rfl
@[simp] theorem State.countDraw_cmdw (s : State) : (s.countDraw).cmdw = s.cmdw := rfl
@[simp] theorem State.countDraw_roff (s : State) : (s.countDraw).roff = s.roff := rfl
@[simp] theorem State.countDraw_rlen (s : State) : (s.countDraw).rlen = s.rlen := rfl
@[simp] theorem State.countDraw_dataLo (s : State) : (s.countDraw).dataLo = s.dataLo := rfl
@[simp] theorem State.countDraw_dataHi (s : State) : (s.countDraw).dataHi = s.dataHi := rfl
@[simp] theorem State.countDraw_txLen (s : State) : (s.countDraw).txLen = s.txLen := rfl
@[simp] theorem State.countDraw_rxPos (s : State) : (s.countDraw).rxPos = s.rxPos := rfl
@[simp] theorem State.countDraw_rxLen (s : State) : (s.countDraw).rxLen = s.rxLen := rfl
@[simp] theorem State.countDraw_cksum (s : State) : (s.countDraw).cksum = s.cksum := rfl
@[simp] theorem State.countDraw_agenda (s : State) : (s.countDraw).agenda = s.agenda := rfl
@[simp] theorem State.countDraw_rdata (s : State) : (s.countDraw).rdata = s.rdata := rfl
@[simp] theorem State.countDraw_draws (s : State) : (s.countDraw).draws = s.draws + 1 := rfl

@[simp] theorem State.setBusErr_cipher (s : State) : (s.setBusErr).cipher = s.cipher := rfl
@[simp] theorem State.setBusErr_keyValid (s : State) : (s.setBusErr).keyValid = s.keyValid := rfl
@[simp] theorem State.setBusErr_key (s : State) : (s.setBusErr).key = s.key := rfl
@[simp] theorem State.setBusErr_keyLen (s : State) : (s.setBusErr).keyLen = s.keyLen := rfl
@[simp] theorem State.setBusErr_salt (s : State) : (s.setBusErr).salt = s.salt := rfl
@[simp] theorem State.setBusErr_saltLen (s : State) : (s.setBusErr).saltLen = s.saltLen := rfl
@[simp] theorem State.setBusErr_mem (s : State) : (s.setBusErr).mem = s.mem := rfl
@[simp] theorem State.setBusErr_ie (s : State) : (s.setBusErr).ie = s.ie := rfl
@[simp] theorem State.setBusErr_busy (s : State) : (s.setBusErr).busy = s.busy := rfl
@[simp] theorem State.setBusErr_done (s : State) : (s.setBusErr).done = s.done := rfl
@[simp] theorem State.setBusErr_drop (s : State) : (s.setBusErr).drop = s.drop := rfl
@[simp] theorem State.setBusErr_busErr (s : State) : (s.setBusErr).busErr = true := rfl
@[simp] theorem State.setBusErr_err (s : State) : (s.setBusErr).err = s.err := rfl
@[simp] theorem State.setBusErr_cmdw (s : State) : (s.setBusErr).cmdw = s.cmdw := rfl
@[simp] theorem State.setBusErr_roff (s : State) : (s.setBusErr).roff = s.roff := rfl
@[simp] theorem State.setBusErr_rlen (s : State) : (s.setBusErr).rlen = s.rlen := rfl
@[simp] theorem State.setBusErr_dataLo (s : State) : (s.setBusErr).dataLo = s.dataLo := rfl
@[simp] theorem State.setBusErr_dataHi (s : State) : (s.setBusErr).dataHi = s.dataHi := rfl
@[simp] theorem State.setBusErr_txLen (s : State) : (s.setBusErr).txLen = s.txLen := rfl
@[simp] theorem State.setBusErr_rxPos (s : State) : (s.setBusErr).rxPos = s.rxPos := rfl
@[simp] theorem State.setBusErr_rxLen (s : State) : (s.setBusErr).rxLen = s.rxLen := rfl
@[simp] theorem State.setBusErr_cksum (s : State) : (s.setBusErr).cksum = s.cksum := rfl
@[simp] theorem State.setBusErr_agenda (s : State) : (s.setBusErr).agenda = s.agenda := rfl
@[simp] theorem State.setBusErr_rdata (s : State) : (s.setBusErr).rdata = s.rdata := rfl
@[simp] theorem State.setBusErr_draws (s : State) : (s.setBusErr).draws = s.draws := rfl

@[simp] theorem State.setDrop_cipher (s : State) : (s.setDrop).cipher = s.cipher := rfl
@[simp] theorem State.setDrop_keyValid (s : State) : (s.setDrop).keyValid = s.keyValid := rfl
@[simp] theorem State.setDrop_key (s : State) : (s.setDrop).key = s.key := rfl
@[simp] theorem State.setDrop_keyLen (s : State) : (s.setDrop).keyLen = s.keyLen := rfl
@[simp] theorem State.setDrop_salt (s : State) : (s.setDrop).salt = s.salt := rfl
@[simp] theorem State.setDrop_saltLen (s : State) : (s.setDrop).saltLen = s.saltLen := rfl
@[simp] theorem State.setDrop_mem (s : State) : (s.setDrop).mem = s.mem := rfl
@[simp] theorem State.setDrop_ie (s : State) : (s.setDrop).ie = s.ie := rfl
@[simp] theorem State.setDrop_busy (s : State) : (s.setDrop).busy = s.busy := rfl
@[simp] theorem State.setDrop_done (s : State) : (s.setDrop).done = s.done := rfl
@[simp] theorem State.setDrop_drop (s : State) : (s.setDrop).drop = true := rfl
@[simp] theorem State.setDrop_busErr (s : State) : (s.setDrop).busErr = s.busErr := rfl
@[simp] theorem State.setDrop_err (s : State) : (s.setDrop).err = s.err := rfl
@[simp] theorem State.setDrop_cmdw (s : State) : (s.setDrop).cmdw = s.cmdw := rfl
@[simp] theorem State.setDrop_roff (s : State) : (s.setDrop).roff = s.roff := rfl
@[simp] theorem State.setDrop_rlen (s : State) : (s.setDrop).rlen = s.rlen := rfl
@[simp] theorem State.setDrop_dataLo (s : State) : (s.setDrop).dataLo = s.dataLo := rfl
@[simp] theorem State.setDrop_dataHi (s : State) : (s.setDrop).dataHi = s.dataHi := rfl
@[simp] theorem State.setDrop_txLen (s : State) : (s.setDrop).txLen = s.txLen := rfl
@[simp] theorem State.setDrop_rxPos (s : State) : (s.setDrop).rxPos = s.rxPos := rfl
@[simp] theorem State.setDrop_rxLen (s : State) : (s.setDrop).rxLen = s.rxLen := rfl
@[simp] theorem State.setDrop_cksum (s : State) : (s.setDrop).cksum = s.cksum := rfl
@[simp] theorem State.setDrop_agenda (s : State) : (s.setDrop).agenda = s.agenda := rfl
@[simp] theorem State.setDrop_rdata (s : State) : (s.setDrop).rdata = s.rdata := rfl
@[simp] theorem State.setDrop_draws (s : State) : (s.setDrop).draws = s.draws := rfl

@[simp] theorem State.clearFlags_cipher (s : State) (w : Word) : (s.clearFlags w).cipher = s.cipher := rfl
@[simp] theorem State.clearFlags_keyValid (s : State) (w : Word) : (s.clearFlags w).keyValid = s.keyValid := rfl
@[simp] theorem State.clearFlags_key (s : State) (w : Word) : (s.clearFlags w).key = s.key := rfl
@[simp] theorem State.clearFlags_keyLen (s : State) (w : Word) : (s.clearFlags w).keyLen = s.keyLen := rfl
@[simp] theorem State.clearFlags_salt (s : State) (w : Word) : (s.clearFlags w).salt = s.salt := rfl
@[simp] theorem State.clearFlags_saltLen (s : State) (w : Word) : (s.clearFlags w).saltLen = s.saltLen := rfl
@[simp] theorem State.clearFlags_mem (s : State) (w : Word) : (s.clearFlags w).mem = s.mem := rfl
@[simp] theorem State.clearFlags_ie (s : State) (w : Word) : (s.clearFlags w).ie = s.ie := rfl
@[simp] theorem State.clearFlags_busy (s : State) (w : Word) : (s.clearFlags w).busy = s.busy := rfl
@[simp] theorem State.clearFlags_done (s : State) (w : Word) : (s.clearFlags w).done = (s.done && !w.getLsbD 2) := rfl
@[simp] theorem State.clearFlags_drop (s : State) (w : Word) : (s.clearFlags w).drop = (s.drop && !w.getLsbD 3) := rfl
@[simp] theorem State.clearFlags_busErr (s : State) (w : Word) : (s.clearFlags w).busErr = (s.busErr && !w.getLsbD 4) := rfl
@[simp] theorem State.clearFlags_err (s : State) (w : Word) : (s.clearFlags w).err = s.err := rfl
@[simp] theorem State.clearFlags_cmdw (s : State) (w : Word) : (s.clearFlags w).cmdw = s.cmdw := rfl
@[simp] theorem State.clearFlags_roff (s : State) (w : Word) : (s.clearFlags w).roff = s.roff := rfl
@[simp] theorem State.clearFlags_rlen (s : State) (w : Word) : (s.clearFlags w).rlen = s.rlen := rfl
@[simp] theorem State.clearFlags_dataLo (s : State) (w : Word) : (s.clearFlags w).dataLo = s.dataLo := rfl
@[simp] theorem State.clearFlags_dataHi (s : State) (w : Word) : (s.clearFlags w).dataHi = s.dataHi := rfl
@[simp] theorem State.clearFlags_txLen (s : State) (w : Word) : (s.clearFlags w).txLen = s.txLen := rfl
@[simp] theorem State.clearFlags_rxPos (s : State) (w : Word) : (s.clearFlags w).rxPos = s.rxPos := rfl
@[simp] theorem State.clearFlags_rxLen (s : State) (w : Word) : (s.clearFlags w).rxLen = s.rxLen := rfl
@[simp] theorem State.clearFlags_cksum (s : State) (w : Word) : (s.clearFlags w).cksum = s.cksum := rfl
@[simp] theorem State.clearFlags_agenda (s : State) (w : Word) : (s.clearFlags w).agenda = s.agenda := rfl
@[simp] theorem State.clearFlags_rdata (s : State) (w : Word) : (s.clearFlags w).rdata = s.rdata := rfl
@[simp] theorem State.clearFlags_draws (s : State) (w : Word) : (s.clearFlags w).draws = s.draws := rfl

@[simp] theorem State.setIe_cipher (s : State) (w : Word) : (s.setIe w).cipher = s.cipher := rfl
@[simp] theorem State.setIe_keyValid (s : State) (w : Word) : (s.setIe w).keyValid = s.keyValid := rfl
@[simp] theorem State.setIe_key (s : State) (w : Word) : (s.setIe w).key = s.key := rfl
@[simp] theorem State.setIe_keyLen (s : State) (w : Word) : (s.setIe w).keyLen = s.keyLen := rfl
@[simp] theorem State.setIe_salt (s : State) (w : Word) : (s.setIe w).salt = s.salt := rfl
@[simp] theorem State.setIe_saltLen (s : State) (w : Word) : (s.setIe w).saltLen = s.saltLen := rfl
@[simp] theorem State.setIe_mem (s : State) (w : Word) : (s.setIe w).mem = s.mem := rfl
@[simp] theorem State.setIe_ie (s : State) (w : Word) : (s.setIe w).ie = w.getLsbD 0 := rfl
@[simp] theorem State.setIe_busy (s : State) (w : Word) : (s.setIe w).busy = s.busy := rfl
@[simp] theorem State.setIe_done (s : State) (w : Word) : (s.setIe w).done = s.done := rfl
@[simp] theorem State.setIe_drop (s : State) (w : Word) : (s.setIe w).drop = s.drop := rfl
@[simp] theorem State.setIe_busErr (s : State) (w : Word) : (s.setIe w).busErr = s.busErr := rfl
@[simp] theorem State.setIe_err (s : State) (w : Word) : (s.setIe w).err = s.err := rfl
@[simp] theorem State.setIe_cmdw (s : State) (w : Word) : (s.setIe w).cmdw = s.cmdw := rfl
@[simp] theorem State.setIe_roff (s : State) (w : Word) : (s.setIe w).roff = s.roff := rfl
@[simp] theorem State.setIe_rlen (s : State) (w : Word) : (s.setIe w).rlen = s.rlen := rfl
@[simp] theorem State.setIe_dataLo (s : State) (w : Word) : (s.setIe w).dataLo = s.dataLo := rfl
@[simp] theorem State.setIe_dataHi (s : State) (w : Word) : (s.setIe w).dataHi = s.dataHi := rfl
@[simp] theorem State.setIe_txLen (s : State) (w : Word) : (s.setIe w).txLen = s.txLen := rfl
@[simp] theorem State.setIe_rxPos (s : State) (w : Word) : (s.setIe w).rxPos = s.rxPos := rfl
@[simp] theorem State.setIe_rxLen (s : State) (w : Word) : (s.setIe w).rxLen = s.rxLen := rfl
@[simp] theorem State.setIe_cksum (s : State) (w : Word) : (s.setIe w).cksum = s.cksum := rfl
@[simp] theorem State.setIe_agenda (s : State) (w : Word) : (s.setIe w).agenda = s.agenda := rfl
@[simp] theorem State.setIe_rdata (s : State) (w : Word) : (s.setIe w).rdata = s.rdata := rfl
@[simp] theorem State.setIe_draws (s : State) (w : Word) : (s.setIe w).draws = s.draws := rfl

end Sys2Proof.Machine
end

