-- ==== Sys2Proof/Laws/Ops.lean ====
section
/-! SUPPORT. One lemma per shared operation: everything it can do, as the cases it distinguishes. A proof
cites the lemma instead of unfolding the operation. -/

namespace Sys2Proof.Machine

/-! ### Operands -/

theorem rangeFits_eq (s : State) : rangeFits s = decide (s.roff.toNat + s.rlen.toNat ≤ 65536) := rfl

theorem keyLenLegal_iff (s : State) : keyLenLegal s = true ↔ 1 ≤ s.keyLen.toNat ∧ s.keyLen.toNat ≤ 56 := by
  simp [keyLenLegal]

theorem saltLenLegal_iff (s : State) : saltLenLegal s = true ↔ s.saltLen.toNat ≤ 56 := by
  simp [saltLenLegal]

theorem streamHas_iff (s : State) (n : Nat) :
    streamHas s n = true ↔ s.rxPos.toNat + n ≤ s.rxLen.toNat := by simp [streamHas]

theorem writerHasRoom_iff (s : State) (n : Nat) :
    writerHasRoom s n = true ↔ s.txLen.toNat + n ≤ 65536 := by simp [writerHasRoom]

/-! ### Commands -/

theorem appendValue_cases (n v : Nat) (s : State) :
    (s.txLen.toNat + n ≤ 65536 ∧ appendValue n v s =
      ((s.setMem (s.mem.writeLE (writerAddr s) n v)).setTxLen (s.txLen.toNat + n)).complete .ok) ∨
    (65536 < s.txLen.toNat + n ∧ appendValue n v s = s.complete .txOverflow) := by
  by_cases h : s.txLen.toNat + n ≤ 65536
  · exact .inl ⟨h, by simp [appendValue, writerHasRoom, h]⟩
  · exact .inr ⟨by omega, by simp [appendValue, writerHasRoom, h]⟩

theorem txPutRaw_cases (s : State) :
    (s.txLen.toNat + s.rlen.toNat ≤ 65536 ∧
      txPutRaw s = (s.setTxLen (s.txLen.toNat + s.rlen.toNat)).complete .ok) ∨
    (65536 < s.txLen.toNat + s.rlen.toNat ∧ txPutRaw s = s.complete .txOverflow) := by
  by_cases h : s.txLen.toNat + s.rlen.toNat ≤ 65536
  · exact .inl ⟨h, by simp [txPutRaw, writerHasRoom, rangeLen, h]⟩
  · exact .inr ⟨by omega, by simp [txPutRaw, writerHasRoom, rangeLen, h]⟩

theorem txSeal_cases (s : State) :
    (2 ≤ s.txLen.toNat ∧ s.txLen.toNat ≤ 65535 ∧
      txSeal s = (s.setMem (s.mem.writeLE (bufAddr .tx 0) 2 s.txLen.toNat)).complete .ok) ∨
    ((s.txLen.toNat < 2 ∨ 65535 < s.txLen.toNat) ∧ txSeal s = s.complete .frameLengthError) := by
  by_cases h : 2 ≤ s.txLen.toNat ∧ s.txLen.toNat ≤ 65535
  · exact .inl ⟨h.1, h.2, by simp [txSeal, sealable, h]⟩
  · refine .inr ⟨by omega, ?_⟩
    rw [txSeal, if_neg]
    simpa [sealable] using h

theorem getValue_cases (n : Nat) (s : State) :
    (s.rxPos.toNat + n ≤ s.rxLen.toNat ∧ getValue n s =
      ((s.setRxPos (s.rxPos.toNat + n)).setData (BitVec.ofNat 32 (takenValue s n))
        (BitVec.ofNat 32 (takenValue s n / 2 ^ 32))).complete .ok) ∨
    (s.rxLen.toNat < s.rxPos.toNat + n ∧ getValue n s = s.complete .shortRead) := by
  by_cases h : s.rxPos.toNat + n ≤ s.rxLen.toNat
  · exact .inl ⟨h, by simp [getValue, streamHas, h]⟩
  · exact .inr ⟨by omega, by simp [getValue, streamHas, h]⟩

theorem rxGetRaw_cases (s : State) :
    (s.rxPos.toNat + s.rlen.toNat ≤ s.rxLen.toNat ∧ rxGetRaw s =
      ((s.setData (BitVec.ofNat 32 s.rxPos.toNat) 0).setRxPos (s.rxPos.toNat + s.rlen.toNat)).complete .ok) ∨
    (s.rxLen.toNat < s.rxPos.toNat + s.rlen.toNat ∧ rxGetRaw s = s.complete .shortRead) := by
  by_cases h : s.rxPos.toNat + s.rlen.toNat ≤ s.rxLen.toNat
  · exact .inl ⟨h, by simp [rxGetRaw, streamHas, rangeLen, h]⟩
  · exact .inr ⟨by omega, by simp [rxGetRaw, streamHas, rangeLen, h]⟩

theorem acceptFrame_cases (p len : Nat) (s : State) :
    (len < 2 ∧ acceptFrame p len s = (s.setRxPos (p + 2)).complete .invalidBlockAlignment) ∨
    (2 ≤ len ∧ s.rxLen.toNat < p + len ∧ acceptFrame p len s = s.complete .shortRead) ∨
    (2 ≤ len ∧ p + len ≤ s.rxLen.toNat ∧ (len = 2 ∨ (len - 2) % 8 ≠ 0) ∧
      acceptFrame p len s = (s.setRxPos (p + len)).complete .invalidBlockAlignment) ∨
    (2 < len ∧ p + len ≤ s.rxLen.toNat ∧ (len - 2) % 8 = 0 ∧
      acceptFrame p len s = ((s.setRange (p + 2) (len - 2)).setRxPos (p + len)).complete .ok) := by
  by_cases h1 : len < 2
  · exact .inl ⟨h1, by simp [acceptFrame, h1]⟩
  by_cases h2 : s.rxLen.toNat < p + len
  · exact .inr (.inl ⟨by omega, h2, by simp [acceptFrame, h1, h2]⟩)
  by_cases h3 : len - 2 = 0 ∨ (len - 2) % 8 ≠ 0
  · exact .inr (.inr (.inl ⟨by omega, by omega, by omega, by rw [acceptFrame, if_neg h1, if_neg h2, if_pos h3]⟩))
  · exact .inr (.inr (.inr ⟨by omega, by omega, by omega, by rw [acceptFrame, if_neg h1, if_neg h2, if_neg h3]⟩))

theorem rxFrame_cases (s : State) :
    (s.rxLen.toNat < s.rxPos.toNat + 2 ∧ rxFrame s = s.complete .shortRead) ∨
    (s.rxPos.toNat + 2 ≤ s.rxLen.toNat ∧ rxFrame s =
      acceptFrame s.rxPos.toNat (frameLength s) (s.setData (BitVec.ofNat 32 (frameLength s)) 0)) := by
  by_cases h : s.rxPos.toNat + 2 ≤ s.rxLen.toNat
  · exact .inr ⟨h, by simp [rxFrame, streamHas, h]⟩
  · exact .inl ⟨by omega, by simp [rxFrame, streamHas, h]⟩

theorem cryptBlock_cases (f : Block → Block) (s : State) :
    (s.keyValid = true ∧ cryptBlock f s =
      (s.setData (f (s.dataLo, s.dataHi)).1 (f (s.dataLo, s.dataHi)).2).complete .ok) ∨
    (s.keyValid = false ∧ cryptBlock f s = s.complete .keyNotValid) := by
  cases h : s.keyValid
  · exact .inr ⟨rfl, by simp [cryptBlock, h]⟩
  · exact .inl ⟨rfl, by simp [cryptBlock, blockOperand, h]⟩

theorem cryptRange_cases (f : Block → Block) (b : BufSel) (s : State) :
    (s.keyValid = false ∧ cryptRange f b s = s.complete .keyNotValid) ∨
    (s.keyValid = true ∧ (s.rlen.toNat = 0 ∨ s.rlen.toNat % 8 ≠ 0) ∧
      cryptRange f b s = s.complete .invalidBlockAlignment) ∨
    (s.keyValid = true ∧ s.rlen.toNat ≠ 0 ∧ s.rlen.toNat % 8 = 0 ∧ 65536 < s.roff.toNat + s.rlen.toNat ∧
      cryptRange f b s = s.complete .rangeError) ∨
    (s.keyValid = true ∧ s.rlen.toNat ≠ 0 ∧ s.rlen.toNat % 8 = 0 ∧ s.roff.toNat + s.rlen.toNat ≤ 65536 ∧
      cryptRange f b s =
        (s.setMem (s.mem.mapBlocks f (bufAddr b s.roff.toNat) (s.rlen.toNat / 8))).complete .ok) := by
  cases hk : s.keyValid
  · exact .inl ⟨rfl, by simp [cryptRange, hk]⟩
  by_cases h1 : s.rlen.toNat = 0 ∨ s.rlen.toNat % 8 ≠ 0
  · refine .inr (.inl ⟨rfl, h1, ?_⟩)
    rw [cryptRange, if_neg (by simp [hk]), if_pos (by simpa [rangeLen] using h1)]
  have h1' : ¬(rangeLen s = 0 ∨ rangeLen s % 8 ≠ 0) := by simpa [rangeLen] using h1
  by_cases h2 : s.roff.toNat + s.rlen.toNat ≤ 65536
  · refine .inr (.inr (.inr ⟨rfl, by omega, by omega, h2, ?_⟩))
    rw [cryptRange, if_neg (by simp [hk]), if_neg h1', if_neg (by simp [rangeFits_eq, h2])]
    rfl
  · refine .inr (.inr (.inl ⟨rfl, by omega, by omega, by omega, ?_⟩))
    rw [cryptRange, if_neg (by simp [hk]), if_neg h1', if_pos (by simpa [rangeFits_eq] using h2)]

theorem ckWrite_cases (b : BufSel) (s : State) :
    ((s.rlen.toNat = 0 ∨ s.rlen.toNat % 4 ≠ 0) ∧ ckWrite b s = s.complete .invalidChecksumLength) ∨
    (s.rlen.toNat ≠ 0 ∧ s.rlen.toNat % 4 = 0 ∧ 65536 < s.roff.toNat + s.rlen.toNat ∧
      ckWrite b s = s.complete .rangeError) ∨
    (s.rlen.toNat ≠ 0 ∧ s.rlen.toNat % 4 = 0 ∧ s.roff.toNat + s.rlen.toNat ≤ 65536 ∧ ckWrite b s =
      ((s.setMem (s.mem.putLe32 (slotAddr b s) (foldRange b s))).setCksum (foldRange b s)).complete .ok) := by
  by_cases h1 : s.rlen.toNat = 0 ∨ s.rlen.toNat % 4 ≠ 0
  · exact .inl ⟨h1, by rw [ckWrite, if_pos (by simpa [rangeLen] using h1)]⟩
  have h1' : ¬(rangeLen s = 0 ∨ rangeLen s % 4 ≠ 0) := by simpa [rangeLen] using h1
  by_cases h2 : s.roff.toNat + s.rlen.toNat ≤ 65536
  · refine .inr (.inr ⟨by omega, by omega, h2, ?_⟩)
    rw [ckWrite, if_neg h1', if_neg (by simp [rangeFits_eq, h2])]
  · refine .inr (.inl ⟨by omega, by omega, by omega, ?_⟩)
    rw [ckWrite, if_neg h1', if_pos (by simpa [rangeFits_eq] using h2)]

theorem ckVerify_cases (b : BufSel) (s : State) :
    ((s.rlen.toNat = 0 ∨ s.rlen.toNat % 4 ≠ 0) ∧ ckVerify b s = s.complete .invalidChecksumLength) ∨
    (s.rlen.toNat ≠ 0 ∧ s.rlen.toNat % 4 = 0 ∧ 65536 < s.roff.toNat + s.rlen.toNat ∧
      ckVerify b s = s.complete .rangeError) ∨
    (s.rlen.toNat ≠ 0 ∧ s.rlen.toNat % 4 = 0 ∧ s.roff.toNat + s.rlen.toNat ≤ 65536 ∧
      foldRange b s ≠ s.mem.le32 (slotAddr b s) ∧
      ckVerify b s = (s.setCksum (foldRange b s)).complete .checksumMismatch) ∨
    (s.rlen.toNat ≠ 0 ∧ s.rlen.toNat % 4 = 0 ∧ s.roff.toNat + s.rlen.toNat ≤ 65536 ∧
      foldRange b s = s.mem.le32 (slotAddr b s) ∧
      ckVerify b s = (s.setCksum (foldRange b s)).complete .ok) := by
  by_cases h1 : s.rlen.toNat = 0 ∨ s.rlen.toNat % 4 ≠ 0
  · exact .inl ⟨h1, by rw [ckVerify, if_pos (by simpa [rangeLen] using h1)]⟩
  have h1' : ¬(rangeLen s = 0 ∨ rangeLen s % 4 ≠ 0) := by simpa [rangeLen] using h1
  by_cases h2 : s.roff.toNat + s.rlen.toNat ≤ 65536
  · have h2' : ¬((!rangeFits s) = true) := by simp [rangeFits_eq, h2]
    by_cases h3 : foldRange b s = s.mem.le32 (slotAddr b s)
    · exact .inr (.inr (.inr ⟨by omega, by omega, h2, h3, by
        rw [ckVerify, if_neg h1', if_neg h2', if_neg (by simpa using h3)]⟩))
    · exact .inr (.inr (.inl ⟨by omega, by omega, h2, h3, by
        rw [ckVerify, if_neg h1', if_neg h2', if_pos h3]⟩))
  · refine .inr (.inl ⟨by omega, by omega, by omega, ?_⟩)
    rw [ckVerify, if_neg h1', if_pos (by simpa [rangeFits_eq] using h2)]

theorem ksInit_cases (s : State) :
    ((s.keyLen.toNat < 1 ∨ 56 < s.keyLen.toNat) ∧ ksInit s = failKeySchedule .invalidKeySize s) ∨
    (1 ≤ s.keyLen.toNat ∧ s.keyLen.toNat ≤ 56 ∧
      ksInit s = installKeySchedule (keySchedule (keyOperand s) []) s) := by
  by_cases h : 1 ≤ s.keyLen.toNat ∧ s.keyLen.toNat ≤ 56
  · refine .inr ⟨h.1, h.2, ?_⟩
    rw [ksInit, if_neg]; simp [keyLenLegal, h]
  · refine .inl ⟨by omega, ?_⟩
    rw [ksInit, if_pos]; simp [keyLenLegal]; omega

theorem ksInitSalt_cases (s : State) :
    ((s.keyLen.toNat < 1 ∨ 56 < s.keyLen.toNat) ∧ ksInitSalt s = failKeySchedule .invalidKeySize s) ∨
    (1 ≤ s.keyLen.toNat ∧ s.keyLen.toNat ≤ 56 ∧ 56 < s.saltLen.toNat ∧
      ksInitSalt s = failKeySchedule .invalidSaltSize s) ∨
    (1 ≤ s.keyLen.toNat ∧ s.keyLen.toNat ≤ 56 ∧ s.saltLen.toNat ≤ 56 ∧
      ksInitSalt s = installKeySchedule (keySchedule (keyOperand s) (saltOperand s)) s) := by
  by_cases h : 1 ≤ s.keyLen.toNat ∧ s.keyLen.toNat ≤ 56
  · have h' : ¬((!keyLenLegal s) = true) := by simp [keyLenLegal, h]
    by_cases h2 : s.saltLen.toNat ≤ 56
    · refine .inr (.inr ⟨h.1, h.2, h2, ?_⟩)
      rw [ksInitSalt, if_neg h', if_neg]; simp [saltLenLegal, h2]
    · refine .inr (.inl ⟨h.1, h.2, by omega, ?_⟩)
      rw [ksInitSalt, if_neg h', if_pos]; simp [saltLenLegal]; omega
  · refine .inl ⟨by omega, ?_⟩
    rw [ksInitSalt, if_pos]; simp [keyLenLegal]; omega

/-! ### Host accesses -/

theorem hostRead_cases (w : Width) (a : Nat) (s : State) :
    (busError w a = true ∧ hostRead w a s = (s.setRdata 0).setBusErr) ∨
    (busError w a = false ∧ s.busy = true ∧ steadyInBusy (regionAt a) = false ∧
      hostRead w a s = (s.setRdata (busyValue w s.draws)).countDraw) ∨
    (busError w a = false ∧ (s.busy = false ∨ steadyInBusy (regionAt a) = true) ∧
      hostRead w a s = s.setRdata (windowRead w a s)) := by
  unfold hostRead
  cases busError w a <;> cases s.busy <;> cases steadyInBusy (regionAt a) <;> simp

theorem hostWrite_cases (w : Width) (a : Nat) (d : Word) (s : State) :
    (busError w a = true ∧ hostWrite w a d s = s.setBusErr) ∨
    (busError w a = false ∧ s.busy = true ∧ writableInBusy (regionAt a) = false ∧
      hostWrite w a d s = s.setDrop) ∨
    (busError w a = false ∧ (s.busy = false ∨ writableInBusy (regionAt a) = true) ∧
      hostWrite w a d s = windowWrite w a d s) := by
  unfold hostWrite
  cases busError w a <;> cases s.busy <;> cases writableInBusy (regionAt a) <;> simp

/-- What a write that is neither a bus error nor dropped can do: a soft reset, or an update of the places of
one region. -/
theorem windowWrite_cases (w : Width) (a : Nat) (d : Word) (s : State) :
    (regionAt a = .register .ctrl ∧ d.getLsbD 1 = true ∧ windowWrite w a d s = softReset d s) ∨
    (regionAt a = .register .ctrl ∧ d.getLsbD 1 = false ∧ windowWrite w a d s = s.setIe d) ∨
    (∃ r, r ≠ Reg.ctrl ∧ regionAt a = .register r ∧ windowWrite w a d s = writeReg r d s) ∨
    (∃ i, regionAt a = .keyWindow i ∧ windowWrite w a d s =
      { s with key := putWindow i w.bytes d.toNat s.key }) ∨
    (∃ i, regionAt a = .saltWindow i ∧ windowWrite w a d s =
      { s with salt := putWindow i w.bytes d.toNat s.salt }) ∨
    (regionAt a = .buffers ∧ windowWrite w a d s = s.setMem (s.mem.writeLE a w.bytes d.toNat)) ∨
    (regionAt a = .reserved ∧ windowWrite w a d s = s) := by
  cases h : regionAt a with
  | register r =>
    by_cases hr : r = .ctrl
    · subst hr
      cases hd : d.getLsbD 1
      · exact .inr (.inl ⟨rfl, rfl, by rw [windowWrite, h]; simp only [writeReg, writeCtrl, hd]; rfl⟩)
      · exact .inl ⟨rfl, rfl, by rw [windowWrite, h]; simp only [writeReg, writeCtrl, hd]; rfl⟩
    · exact .inr (.inr (.inl ⟨r, hr, rfl, by simp [windowWrite, h]⟩))
  | keyWindow i => exact .inr (.inr (.inr (.inl ⟨i, rfl, by simp [windowWrite, h]⟩)))
  | saltWindow i => exact .inr (.inr (.inr (.inr (.inl ⟨i, rfl, by simp [windowWrite, h]⟩))))
  | buffers => exact .inr (.inr (.inr (.inr (.inr (.inl ⟨rfl, by simp [windowWrite, h]⟩)))))
  | reserved => exact .inr (.inr (.inr (.inr (.inr (.inr ⟨rfl, by simp [windowWrite, h]⟩)))))

/-- The buffer region holds exactly the buffer bytes, and an aligned access to it stays in it. -/
theorem regionAt_buffers {a : Nat} : regionAt a = .buffers ↔ inBuffers a = true := by
  unfold regionAt inBuffers
  repeat' split
  all_goals simp
  all_goals omega

theorem aligned_stays_in_buffers {w : Width} {a : Nat} (h : busError w a = false) (ha : inBuffers a = true) :
    0x10000 ≤ a ∧ a + w.bytes ≤ 0x30000 := by
  simp [inBuffers] at ha
  simp [busError] at h
  cases w <;> simp [Width.bytes] at h ⊢ <;> omega

/-- The bytes a soft reset makes unspecified lie in the buffers (R293: "No other buffer byte is affected"). -/
theorem putBytes_inBuffers (n : Nat) (s : State) :
    (putBytes n s).2 = 0 ∨ (0x10000 ≤ (putBytes n s).1 ∧ (putBytes n s).1 + (putBytes n s).2 ≤ 0x30000) := by
  by_cases h : s.txLen.toNat + n ≤ 65536
  · right; simp [putBytes, writerHasRoom, writerAddr, bufAddr, bufBase, h]; omega
  · left; simp [putBytes, writerHasRoom, h]

theorem bufAddr_range (b : BufSel) {off n : Nat} (h : off + n ≤ 65536) :
    0x10000 ≤ bufAddr b off ∧ bufAddr b off + n ≤ 0x30000 := by
  cases b <;> simp [bufAddr, bufBase] <;> omega

theorem cryptBytes_inBuffers (b : BufSel) (s : State) :
    (cryptBytes b s).2 = 0 ∨
      (0x10000 ≤ (cryptBytes b s).1 ∧ (cryptBytes b s).1 + (cryptBytes b s).2 ≤ 0x30000) := by
  cases h : cryptRangeRuns s
  · left; simp [cryptBytes, h]
  · right
    have h' : rangeOff s + rangeLen s ≤ 65536 := by
      simp [cryptRangeRuns, rangeFits] at h; omega
    simpa [cryptBytes, h, rangeAddr] using bufAddr_range b h'

theorem ckBytes_inBuffers (b : BufSel) (s : State) :
    (if checksumRuns s then 4 else 0) = 0 ∨
      (0x10000 ≤ slotAddr b s ∧ slotAddr b s + (if checksumRuns s then 4 else 0) ≤ 0x30000) := by
  cases h : checksumRuns s
  · left; rfl
  · right
    simp [checksumRuns, rangeFits] at h
    have := bufAddr_range b h.2
    simp [slotAddr, rangeAddr]
    omega

theorem bytesWritten_inBuffers (i : Instr) (s : State) :
    (bytesWritten i s).2 = 0 ∨
      (0x10000 ≤ (bytesWritten i s).1 ∧ (bytesWritten i s).1 + (bytesWritten i s).2 ≤ 0x30000) := by
  cases i
  case encRange b => exact cryptBytes_inBuffers b s
  case decRange b => exact cryptBytes_inBuffers b s
  case ckWrite b => exact ckBytes_inBuffers b s
  case txPutU8 => exact putBytes_inBuffers 1 s
  case txPutU16 => exact putBytes_inBuffers 2 s
  case txPutU32 => exact putBytes_inBuffers 4 s
  case txPutU64 => exact putBytes_inBuffers 8 s
  case txPutF32 => exact putBytes_inBuffers 4 s
  case txPutF64 => exact putBytes_inBuffers 8 s
  case txSeal =>
    cases h : sealable s
    · left; simp [bytesWritten, h]
    · right; simp [bytesWritten, h, bufAddr, bufBase]
  all_goals exact .inl rfl

theorem wf_abortedMem {s : State} (h : s.mem.wf = true) : (abortedMem s).wf = true := by
  refine Memory.wf_smear h ?_
  unfold abortedBytes
  split
  · exact bytesWritten_inBuffers _ s
  · exact .inl rfl

end Sys2Proof.Machine
end

