-- ==== Sys2Proof/Laws/Exec.lean ====
section
/-! SUPPORT. What each command is over the shared operations, so that no proof unfolds `exec`: the lemmas of
`Laws/Ops.lean` then say what the operation can do. -/

namespace Sys2Proof.Machine

theorem exec_nop (s : State) : exec .nop s = .next (s.complete .ok) := rfl

theorem exec_ksInit (s : State) : exec .ksInit s = .next (ksInit s) := rfl

theorem exec_ksInitSalt (s : State) : exec .ksInitSalt s = .next (ksInitSalt s) := rfl

theorem exec_encBlk (s : State) : exec .encBlk s = .next (cryptBlock s.cipher.enc s) := rfl

theorem exec_decBlk (s : State) : exec .decBlk s = .next (cryptBlock s.cipher.dec s) := rfl

theorem exec_encRange (b : BufSel) (s : State) :
    exec (.encRange b) s = .next (cryptRange s.cipher.enc b s) := rfl

theorem exec_decRange (b : BufSel) (s : State) :
    exec (.decRange b) s = .next (cryptRange s.cipher.dec b s) := rfl

theorem exec_ckWrite (b : BufSel) (s : State) : exec (.ckWrite b) s = .next (ckWrite b s) := rfl

theorem exec_ckVerify (b : BufSel) (s : State) : exec (.ckVerify b) s = .next (ckVerify b s) := rfl

theorem exec_txClear (s : State) : exec .txClear s = .next ((s.setTxLen 0).complete .ok) := rfl

theorem exec_txPutU8 (s : State) : exec .txPutU8 s = .next (appendValue 1 (valueOperand s 1) s) := rfl

theorem exec_txPutU16 (s : State) : exec .txPutU16 s = .next (appendValue 2 (valueOperand s 2) s) := rfl

theorem exec_txPutU32 (s : State) : exec .txPutU32 s = .next (appendValue 4 (valueOperand s 4) s) := rfl

theorem exec_txPutU64 (s : State) : exec .txPutU64 s = .next (appendValue 8 (valueOperand s 8) s) := rfl

theorem exec_txPutF32 (s : State) : exec .txPutF32 s = .next (appendValue 4 (valueOperand s 4) s) := rfl

theorem exec_txPutF64 (s : State) : exec .txPutF64 s = .next (appendValue 8 (valueOperand s 8) s) := rfl

theorem exec_txPutRaw (s : State) : exec .txPutRaw s = .next (txPutRaw s) := rfl

theorem exec_txSeal (s : State) : exec .txSeal s = .next (txSeal s) := rfl

theorem exec_rxStart (s : State) : exec .rxStart s = .next ((s.setRxPos 0).complete .ok) := rfl

theorem exec_rxGetU8 (s : State) : exec .rxGetU8 s = .next (getValue 1 s) := rfl

theorem exec_rxGetU16 (s : State) : exec .rxGetU16 s = .next (getValue 2 s) := rfl

theorem exec_rxGetU32 (s : State) : exec .rxGetU32 s = .next (getValue 4 s) := rfl

theorem exec_rxGetU64 (s : State) : exec .rxGetU64 s = .next (getValue 8 s) := rfl

theorem exec_rxGetF32 (s : State) : exec .rxGetF32 s = .next (getValue 4 s) := rfl

theorem exec_rxGetF64 (s : State) : exec .rxGetF64 s = .next (getValue 8 s) := rfl

theorem exec_rxGetRaw (s : State) : exec .rxGetRaw s = .next (rxGetRaw s) := rfl

theorem exec_rxFrame (s : State) : exec .rxFrame s = .next (rxFrame s) := rfl

/-- A successful key schedule, field by field. -/
theorem installKeySchedule_eq (c : CipherState) (s : State) : installKeySchedule c s =
    { s with cipher := c, keyValid := true, key := Vector.replicate 56 0, keyLen := 0,
             salt := Vector.replicate 56 0, saltLen := 0, err := .ok, busy := false, done := true } := rfl

/-- A failed key schedule, field by field. -/
theorem failKeySchedule_eq (e : ErrCode) (s : State) : failKeySchedule e s =
    { s with keyValid := false, key := Vector.replicate 56 0, keyLen := 0, salt := Vector.replicate 56 0,
             saltLen := 0, err := e, busy := false, done := true } := rfl

/-- The buffers after a soft reset. -/
theorem softReset_mem (w : Word) (s : State) : (softReset w s).mem = abortedMem s := rfl

end Sys2Proof.Machine
end

