-- ==== Sys2Proof/Laws/PerInstr.lean ====
section
/-! SUPPORT. Statements about every instruction as a term, proved constructor by constructor. -/

namespace Sys2Proof.Laws.EncodedWordLegal

/-- None of R94's three conditions holds of the word of an instruction (30_encoding.md R90, R93, R94). -/
def Statement (i : Instr) : Prop := i.wellFormed = true ∧ legalWord (encodeWord i) = true

theorem nop : Statement .nop := ⟨rfl, by decide⟩

theorem ksInit : Statement .ksInit := ⟨rfl, by decide⟩

theorem ksInitSalt : Statement .ksInitSalt := ⟨rfl, by decide⟩

theorem encBlk : Statement .encBlk := ⟨rfl, by decide⟩

theorem decBlk : Statement .decBlk := ⟨rfl, by decide⟩

theorem encRange (b : BufSel) : Statement (.encRange b) := by cases b <;> exact ⟨rfl, by decide⟩

theorem decRange (b : BufSel) : Statement (.decRange b) := by cases b <;> exact ⟨rfl, by decide⟩

theorem ckWrite (b : BufSel) : Statement (.ckWrite b) := by cases b <;> exact ⟨rfl, by decide⟩

theorem ckVerify (b : BufSel) : Statement (.ckVerify b) := by cases b <;> exact ⟨rfl, by decide⟩

theorem txClear : Statement .txClear := ⟨rfl, by decide⟩

theorem txPutU8 : Statement .txPutU8 := ⟨rfl, by decide⟩

theorem txPutU16 : Statement .txPutU16 := ⟨rfl, by decide⟩

theorem txPutU32 : Statement .txPutU32 := ⟨rfl, by decide⟩

theorem txPutU64 : Statement .txPutU64 := ⟨rfl, by decide⟩

theorem txPutF32 : Statement .txPutF32 := ⟨rfl, by decide⟩

theorem txPutF64 : Statement .txPutF64 := ⟨rfl, by decide⟩

theorem txPutRaw : Statement .txPutRaw := ⟨rfl, by decide⟩

theorem txSeal : Statement .txSeal := ⟨rfl, by decide⟩

theorem rxStart : Statement .rxStart := ⟨rfl, by decide⟩

theorem rxGetU8 : Statement .rxGetU8 := ⟨rfl, by decide⟩

theorem rxGetU16 : Statement .rxGetU16 := ⟨rfl, by decide⟩

theorem rxGetU32 : Statement .rxGetU32 := ⟨rfl, by decide⟩

theorem rxGetU64 : Statement .rxGetU64 := ⟨rfl, by decide⟩

theorem rxGetF32 : Statement .rxGetF32 := ⟨rfl, by decide⟩

theorem rxGetF64 : Statement .rxGetF64 := ⟨rfl, by decide⟩

theorem rxGetRaw : Statement .rxGetRaw := ⟨rfl, by decide⟩

theorem rxFrame : Statement .rxFrame := ⟨rfl, by decide⟩

end Sys2Proof.Laws.EncodedWordLegal
end

