-- ==== Sys2Proof/Machine/HostProgram.lean ====
section
/-! DEFINITION. Host programs (30_encoding.md R99) and the pseudo-instructions (R100), as the turns they
expand to. A wait is the polls the host makes before the completion, the completion, and the poll that sees
BUSY = 0. -/

namespace Sys2Proof.Machine

/-- The window offset of a register name (10_state.md R30). -/
def Reg.offset : Reg → BitVec 18
  | .id => 0x000
  | .ctrl => 0x004
  | .status => 0x008
  | .cmd => 0x00C
  | .keyLen => 0x010
  | .saltLen => 0x014
  | .roff => 0x018
  | .rlen => 0x01C
  | .dataLo => 0x020
  | .dataHi => 0x024
  | .txLen => 0x028
  | .rxPos => 0x02C
  | .rxLen => 0x030
  | .cksum => 0x034
  | .reserved => 0x038

/-- `KEY+i` of R99. -/
def keyOffset (i : Nat) : BitVec 18 := BitVec.ofNat 18 (0x40 + i)

/-- `SALT+i` of R99. -/
def saltOffset (i : Nat) : BitVec 18 := BitVec.ofNat 18 (0x80 + i)

/-- `RX+i` and `TX+i` of R99. -/
def bufOffset (b : BufSel) (i : Nat) : BitVec 18 := BitVec.ofNat 18 (bufAddr b i)

/-- `WR32 name, v`. -/
def wr32 (r : Reg) (v : Word) : Turn := .host (.write .w32 r.offset v)

/-- `WR16 addr, v`. -/
def wr16 (a : BitVec 18) (v : BitVec 16) : Turn := .host (.write .w16 a (v.setWidth 32))

/-- `WR8 addr, v`. -/
def wr8 (a : BitVec 18) (v : Byte) : Turn := .host (.write .w8 a (v.setWidth 32))

/-- `RD32 name`. -/
def rd32 (r : Reg) : Turn := .host (.read .w32 r.offset)

/-- `RD16 addr`. -/
def rd16 (a : BitVec 18) : Turn := .host (.read .w16 a)

/-- `RD8 addr`. -/
def rd8 (a : BitVec 18) : Turn := .host (.read .w8 a)

/-- `CMD <command>`: the same as WR32 CMD of its word. -/
def cmd (i : Instr) : Turn := wr32 .cmd (encodeWord i)

/-- `WAIT` with `polls` polls that see BUSY = 1; their number is open and an argument (log 24). -/
def wait (polls : Nat) : List Turn := List.replicate polls (rd32 .status) ++ [.engine, rd32 .status]

/-- `EXEC c`. -/
def execCommand (i : Instr) (polls : Nat) : List Turn := cmd i :: wait polls

/-- `CHECK e`, its accesses: read STATUS, then clear DONE, DROP and BUSERR. -/
def check : List Turn := [rd32 .status, wr32 .status 0x1C]

/-- `CHECK e`, what it asserts of the word read: s[15:8] = e. -/
def checkHolds (e : Byte) (status : Word) : Bool := status.extractLsb' 8 8 == e

/-- `SETRANGE off, n`. -/
def setRangeRegs (off n : Word) : List Turn := [wr32 .roff off, wr32 .rlen n]

/-- Byte writes at successive offsets. -/
def putBytesAt (at' : Nat → BitVec 18) : Nat → List Byte → List Turn
  | _, [] => []
  | i, b :: rest => wr8 (at' i) b :: putBytesAt at' (i + 1) rest

/-- `LOADKEY b0..b(n-1)`. -/
def loadKey (k : List Byte) : List Turn :=
  putBytesAt keyOffset 0 k ++ [wr32 .keyLen (BitVec.ofNat 32 k.length)]

/-- `LOADSALT b0..b(m-1)`. -/
def loadSalt (k : List Byte) : List Turn :=
  putBytesAt saltOffset 0 k ++ [wr32 .saltLen (BitVec.ofNat 32 k.length)]

/-- `LOADBLK l, r`. -/
def loadBlk (l r : Word) : List Turn := [wr32 .dataLo l, wr32 .dataHi r]

/-- `LOADRX a, bytes`. -/
def loadRx (a : Nat) (bytes : List Byte) : List Turn := putBytesAt (bufOffset .rx) a bytes

/-- `RECV_FRAME`. How often each WAIT polls before its completion is open (00_scope.md R12, 70_reset_and_hazards.md
R310) and stays an argument (log 24): `n1`, `n2` and `n3` polls for RX_FRAME, DEC_RANGE and CK_VERIFY. -/
def recvFrame (n1 n2 n3 : Nat) : List Turn :=
  execCommand .rxFrame n1 ++ check ++ execCommand (.decRange .rx) n2 ++ check ++ execCommand (.ckVerify .rx) n3

/-- `SEAL_FRAME`; the program sets the range to the payload first. The polls of its three waits are arguments, as
in `recvFrame` (log 24): `n1`, `n2` and `n3` for CK_WRITE, ENC_RANGE and TX_SEAL. -/
def sealFrame (n1 n2 n3 : Nat) : List Turn :=
  execCommand (.ckWrite .tx) n1 ++ execCommand (.encRange .tx) n2 ++ execCommand .txSeal n3

end Sys2Proof.Machine
end

