-- ==== Sys2Proof/Machine/Platform.lean ====
section
/-! DEFINITION. The platform around the FCE: the open parameters of 00_scope.md R8 as the arguments of the model,
and N_INSTANCES instances, each with its own window and its own IRQ line (60_exceptions.md R276). INIT_BUF, the
one parameter that is FCE content, is the free value `Config.initBuf`. -/

namespace Sys2Proof.Machine

/-- Where a platform puts one instance. -/
structure Placement where
  /-- FCE_BASE, the platform address of the window's offset 0 (20_memory.md R82). -/
  base : Nat
  /-- FCE_IRQ, the interrupt-controller input that IRQ drives (60_exceptions.md R260). -/
  irqInput : Nat
  /-- FCE_IRQ, the priority of that input (R260). -/
  irqPriority : Nat
  /-- MODEL: the number of the instance's first draw of unspecified values. With different first draws the values
  of two instances at their first power-on need not agree. DESIGN CHOICE, unsafe (log 23): draw number k is one value
  for all instances, so draws of two instances that come to the same number agree, at whatever time each is made. -/
  firstDraw : Nat
deriving DecidableEq, Repr

/-- The open parameters of R8. -/
structure Params where
  /-- SHARED_KEY, the legacy client key. It is no state of the FCE. -/
  sharedKey : List Byte
  /-- LAT_KS_INIT, in cycles. -/
  latKsInit : Nat
  /-- LAT_BLOCK, in cycles per 8-byte block. -/
  latBlock : Nat
  /-- LAT_CK, in cycles per 4-byte word. -/
  latCk : Nat
  /-- LAT_OTHER, in cycles. -/
  latOther : Nat
  /-- The instances: FCE_BASE and FCE_IRQ of each. -/
  placements : List Placement
deriving DecidableEq, Repr

/-- N_INSTANCES. -/
def Params.nInstances (p : Params) : Nat := p.placements.length

/-- The bytes of one window: an 18-bit offset (00_scope.md R7). -/
def windowBytes : Nat := 0x40000

/-- Two windows share no platform address. -/
def Placement.apart (x y : Placement) : Prop := x.base + windowBytes ≤ y.base ∨ y.base + windowBytes ≤ x.base

/-- Each instance has its own window (R276). -/
def Params.wellPlaced (p : Params) : Prop := p.placements.Pairwise Placement.apart

/-- One access of the HOST to a platform address. -/
inductive BusAccess where
  | read (w : Width) (addr : Nat)
  | write (w : Width) (addr : Nat) (data : Word)
deriving DecidableEq, Repr

/-- The offset of a platform address in an instance's window, if it lies there (20_memory.md R82). -/
def Placement.offset (pl : Placement) (a : Nat) : Option (BitVec 18) :=
  if pl.base ≤ a ∧ a < pl.base + windowBytes then some (BitVec.ofNat 18 (a - pl.base)) else none

/-- A platform access as the access of one instance's window, if it is one. -/
def BusAccess.seenBy (x : BusAccess) (pl : Placement) : Option HostAccess :=
  match x with
  | .read w a => (pl.offset a).map fun off => .read w off
  | .write w a d => (pl.offset a).map fun off => .write w off d

/-- What a platform access does to one instance: nothing where its address does not lie in the window. -/
def BusAccess.on (x : BusAccess) (pl : Placement) (s : State) : State :=
  match x.seenBy pl with
  | some y => hostAccess y s
  | none => s

/-- A platform access reaches the instance whose window holds its address and no other. An address in no window is
outside the FCE (DESIGN CHOICE, log 23). -/
def busAccess : List Placement → BusAccess → List State → List State
  | pl :: pls, x, s :: ss => x.on pl s :: busAccess pls x ss
  | _, _, ss => ss

/-- Each instance starts in its reset state (R276). DESIGN CHOICE, unsafe (log 23): the instances count their draws in
one numbering, each from its `firstDraw` on, so a later draw of one can be the value of an earlier draw of another
(with first draws 0 and 1, instance 0 after one more reset has the unspecified P, S and buffer bytes that instance 1
had at power-on). R276 gives no such agreement, and no claim may lean on it. -/
def Params.reset (p : Params) : List State := p.placements.map fun pl => State.powerOn pl.firstDraw

/-- One step of instance `n`. Instances share no state and send each other nothing (R276), so every platform run is
some order of such steps. -/
def stepInstance (n : Nat) (ss : List State) : Host.Outcome (List State) Fault Refusal :=
  match ss[n]? with
  | none => .next ss
  | some s =>
    match step s with
    | .next t => .next (ss.set n t)
    | .fault e => .fault e
    | .refused e => .refused e

/-- What the instances' IRQ lines drive: input, priority and level of each (R260). -/
def Params.irqLines (p : Params) (ss : List State) : List (Nat × Nat × Bool) :=
  (p.placements.zip ss).map fun x => (x.1.irqInput, x.1.irqPriority, x.2.irq)

/-- The cycles of a command: LAT_KS_INIT for a key schedule, LAT_BLOCK for each block, LAT_CK for each word,
LAT_OTHER for the rest (70_reset_and_hazards.md R310). No step depends on them: time is only the fairness of
44_control.md R244. DESIGN CHOICE: that ENC_BLK and DEC_BLK count as one block and that an error takes the time of
the whole command (log 22). -/
def Params.cycles (p : Params) (i : Instr) (s : State) : Nat :=
  match i with
  | .ksInit | .ksInitSalt => p.latKsInit
  | .encBlk | .decBlk => p.latBlock
  | .encRange _ | .decRange _ => p.latBlock * (rangeLen s / 8)
  | .ckWrite _ | .ckVerify _ => p.latCk * (rangeLen s / 4)
  | .nop | .txClear | .txPutU8 | .txPutU16 | .txPutU32 | .txPutU64 | .txPutF32 | .txPutF64 => p.latOther
  | .txPutRaw | .txSeal | .rxStart | .rxGetU8 | .rxGetU16 | .rxGetU32 | .rxGetU64 => p.latOther
  | .rxGetF32 | .rxGetF64 | .rxGetRaw | .rxFrame => p.latOther

/-- A host loads SHARED_KEY through the key window like any other key (00_scope.md R8). -/
def Params.loadSharedKey (p : Params) : List Turn := loadKey p.sharedKey

end Sys2Proof.Machine
end

