-- ==== Sys2Proof/Laws/Platform.lean ====
section
/-! SUPPORT. Instances are independent (60_exceptions.md R276): an access and a step each reach one of them. -/

namespace Sys2Proof.Machine

@[simp] theorem length_busAccess (pls : List Placement) (x : BusAccess) (ss : List State) :
    (busAccess pls x ss).length = ss.length := by
  induction pls generalizing ss with
  | nil => rfl
  | cons pl pls ih => cases ss <;> simp [busAccess, ih]

/-- An access does to each instance what `BusAccess.on` says, whatever the other instances hold. -/
theorem busAccess_at (pls : List Placement) (x : BusAccess) (ss : List State) {n : Nat} {pl : Placement} {s : State}
    (hp : pls[n]? = some pl) (hs : ss[n]? = some s) :
    (busAccess pls x ss)[n]? = some (x.on pl s) := by
  induction pls generalizing ss n with
  | nil => simp at hp
  | cons pl' pls ih =>
    cases ss with
    | nil => simp at hs
    | cons s' ss =>
      cases n with
      | zero => simp_all [busAccess]
      | succ n => simpa [busAccess] using ih ss (by simpa using hp) (by simpa using hs)

theorem offset_isSome_iff (pl : Placement) (a : Nat) :
    (pl.offset a).isSome = true ↔ pl.base ≤ a ∧ a < pl.base + windowBytes := by
  unfold Placement.offset
  split <;> simp_all

/-- An address lies in at most one of two windows that are apart. -/
theorem offset_none_of_apart {x y : Placement} {a : Nat} (h : x.apart y) (hx : (x.offset a).isSome = true) :
    y.offset a = none := by
  rw [offset_isSome_iff] at hx
  unfold Placement.offset
  rw [if_neg]
  rcases h with h | h <;> omega

/-- A step of one instance leaves every other as it is. -/
theorem stepInstance_other {n k : Nat} {ss tt : List State} (h : stepInstance n ss = .next tt) (hk : k ≠ n) :
    tt[k]? = ss[k]? := by
  unfold stepInstance at h
  split at h
  · cases h; rfl
  · split at h
    · cases h; simp [Ne.symm hk]
    · cases h
    · cases h

end Sys2Proof.Machine
end

