-- ==== Sys2Proof/Laws/Step.lean ====
section
/-! SUPPORT. What a step can do, said once: which turn it is. -/

namespace Sys2Proof.Machine

theorem engineTurn_idle {s : State} (h : s.busy = false) : engineTurn s = .next s := by
  simp [engineTurn, h]

theorem engineTurn_command {s : State} {i : Instr} (h : s.busy = true) (hi : decodeWord s.cmdw = .ok i) :
    engineTurn s = exec i s := by
  simp [engineTurn, h, hi]

theorem engineTurn_illegal {s : State} {e : DecodeError} (h : s.busy = true)
    (he : decodeWord s.cmdw = .error e) : engineTurn s = .next (s.complete .illegalCommand) := by
  simp [engineTurn, h, he]

/-- The three things an engine turn can be. -/
theorem engineTurn_cases (s : State) :
    (s.busy = false ∧ engineTurn s = .next s) ∨
    (∃ i, s.busy = true ∧ decodeWord s.cmdw = .ok i ∧ engineTurn s = exec i s) ∨
    (∃ e, s.busy = true ∧ decodeWord s.cmdw = .error e ∧
      engineTurn s = .next (s.complete .illegalCommand)) := by
  cases h : s.busy
  · exact .inl ⟨rfl, engineTurn_idle h⟩
  · cases hd : decodeWord s.cmdw with
    | ok i => exact .inr (.inl ⟨i, rfl, rfl, engineTurn_command h hd⟩)
    | error e => exact .inr (.inr ⟨e, rfl, rfl, engineTurn_illegal h hd⟩)

/-- The four turns a step can take. -/
theorem step_cases (s : State) :
    (s.agenda = [] ∧ step s = engineTurn s) ∨
    (∃ l, s.agenda = .engine :: l ∧ step s = engineTurn (s.setAgenda l)) ∨
    (∃ x l, s.agenda = .host x :: l ∧ step s = .next (hostAccess x (s.setAgenda l))) ∨
    (∃ l, s.agenda = .resetInput :: l ∧ step s = .next (resetInput (s.setAgenda l))) := by
  unfold step takeTurn
  split <;> simp_all

end Sys2Proof.Machine
end

