-- ==== Sys2Proof/Tests/Slice0.lean ====
section
/-! SUPPORT. Tests. Every expected value is written out from spec/, and the rule or the vector it comes from
is named. After them, for every obligation with hypotheses, states and operands that meet its hypotheses. -/

namespace Sys2Proof.Tests

open Sys2Proof.Machine

set_option Elab.async false

/-! ### Helpers -/

/-- The state an outcome goes on with. -/
def goesTo (o : Host.Outcome State Fault Refusal) : State :=
  match o with
  | .next t => t
  | .fault _ => State.reset
  | .refused _ => State.reset

/-- The state after one command. -/
def after (i : Instr) (s : State) : State := goesTo (exec i s)

/-- The state with bytes put into a buffer from index `i` on. -/
def put (b : BufSel) : Nat → List Byte → State → State
  | _, [], s => s
  | i, x :: rest, s => put b (i + 1) rest (s.setMem (s.mem.write (bufAddr b i) x))

/-- `n` bytes of a buffer from index `i` on. -/
def bytes (b : BufSel) (i n : Nat) (s : State) : List Byte :=
  (List.range n).map fun k => s.mem.read (bufAddr b (i + k))

/-- A fresh machine with DATA_LO, DATA_HI and TX_LEN. -/
def tx (lo hi : Word) (len : BitVec 17) : State := { State.reset with dataLo := lo, dataHi := hi, txLen := len }

/-- A fresh machine whose RXBUF starts with bytes, RX_LEN being their count, and the reader at `pos`. -/
def rx (l : List Byte) (pos : BitVec 17) : State :=
  { put .rx 0 l State.reset with rxLen := BitVec.ofNat 17 l.length, rxPos := pos }

/-- A fresh machine with ROFF and RLEN. -/
def range (off : BitVec 16) (n : BitVec 17) : State := { State.reset with roff := off, rlen := n }

/-- A fresh machine with KEY_VALID set and ROFF and RLEN. -/
def keyed (off : BitVec 16) (n : BitVec 17) : State := { range off n with keyValid := true }

/-- A fresh machine with a key and a salt loaded. -/
def loaded (keyLen saltLen : BitVec 8) (k salt : Vector Byte 56) : State :=
  { State.reset with key := k, keyLen := keyLen, salt := salt, saltLen := saltLen }

/-- A fresh machine with a command word latched. -/
def latched (w : Word) : State := { State.reset with cmdw := w, busy := true }

/-- A CipherState with S all zero and P[i] = 2^i: F is 0, so ENC and DEC only mix round keys in. -/
def flat : CipherState :=
  ⟨Vector.ofFn fun i => BitVec.twoPow 32 i.val, Vector.replicate 4 (Vector.replicate 256 0)⟩

/-! ### Decoding: one word of every row, from the word column of 30_encoding.md R93 -/

theorem test_decode_control_and_key :
    decodeWord 0b00000000000000000000000_0_00000000 = .ok .nop ∧
    decodeWord 0b00000000000000000000000_0_00010000 = .ok .ksInit ∧
    decodeWord 0b00000000000000000000000_0_00010001 = .ok .ksInitSalt := ⟨rfl, rfl, rfl⟩

theorem test_decode_cipher :
    decodeWord 0b00000000000000000000000_0_00100000 = .ok .encBlk ∧
    decodeWord 0b00000000000000000000000_0_00100001 = .ok .decBlk ∧
    decodeWord 0b00000000000000000000000_0_00100010 = .ok (.encRange .rx) ∧
    decodeWord 0b00000000000000000000000_1_00100010 = .ok (.encRange .tx) ∧
    decodeWord 0b00000000000000000000000_0_00100011 = .ok (.decRange .rx) ∧
    decodeWord 0b00000000000000000000000_1_00100011 = .ok (.decRange .tx) := ⟨rfl, rfl, rfl, rfl, rfl, rfl⟩

theorem test_decode_checksum :
    decodeWord 0b00000000000000000000000_0_00110000 = .ok (.ckWrite .rx) ∧
    decodeWord 0b00000000000000000000000_1_00110000 = .ok (.ckWrite .tx) ∧
    decodeWord 0b00000000000000000000000_0_00110001 = .ok (.ckVerify .rx) ∧
    decodeWord 0b00000000000000000000000_1_00110001 = .ok (.ckVerify .tx) := ⟨rfl, rfl, rfl, rfl⟩

theorem test_decode_writer :
    decodeWord 0b00000000000000000000000_0_01000000 = .ok .txClear ∧
    decodeWord 0b00000000000000000000000_0_01000001 = .ok .txPutU8 ∧
    decodeWord 0b00000000000000000000000_0_01000010 = .ok .txPutU16 ∧
    decodeWord 0b00000000000000000000000_0_01000011 = .ok .txPutU32 ∧
    decodeWord 0b00000000000000000000000_0_01000100 = .ok .txPutU64 ∧
    decodeWord 0b00000000000000000000000_0_01000101 = .ok .txPutF32 ∧
    decodeWord 0b00000000000000000000000_0_01000110 = .ok .txPutF64 ∧
    decodeWord 0b00000000000000000000000_0_01000111 = .ok .txPutRaw ∧
    decodeWord 0b00000000000000000000000_0_01001000 = .ok .txSeal :=
  ⟨rfl, rfl, rfl, rfl, rfl, rfl, rfl, rfl, rfl⟩

theorem test_decode_reader :
    decodeWord 0b00000000000000000000000_0_01010000 = .ok .rxStart ∧
    decodeWord 0b00000000000000000000000_0_01010001 = .ok .rxGetU8 ∧
    decodeWord 0b00000000000000000000000_0_01010010 = .ok .rxGetU16 ∧
    decodeWord 0b00000000000000000000000_0_01010011 = .ok .rxGetU32 ∧
    decodeWord 0b00000000000000000000000_0_01010100 = .ok .rxGetU64 ∧
    decodeWord 0b00000000000000000000000_0_01010101 = .ok .rxGetF32 ∧
    decodeWord 0b00000000000000000000000_0_01010110 = .ok .rxGetF64 ∧
    decodeWord 0b00000000000000000000000_0_01010111 = .ok .rxGetRaw ∧
    decodeWord 0b00000000000000000000000_0_01011000 = .ok .rxFrame :=
  ⟨rfl, rfl, rfl, rfl, rfl, rfl, rfl, rfl, rfl⟩

/-- 95_test_vectors.md §4 (control and encoding), and R95's unassigned neighbours. -/
theorem test_decode_illegal :
    decodeWord 0x00000141 = .error .bselNotAllowed ∧ decodeWord 0x00010020 = .error .reservedBits ∧
    decodeWord 0x000000FF = .error .unassignedOpcode ∧ decodeWord 0x00000012 = .error .unassignedOpcode ∧
    decodeWord 0x00000049 = .error .unassignedOpcode ∧ decodeWord 0x00000059 = .error .unassignedOpcode ∧
    decodeWord 0x80000000 = .error .reservedBits ∧ decodeWord 0x00000112 = .error .bselNotAllowed :=
  ⟨rfl, rfl, rfl, rfl, rfl, rfl, rfl, rfl⟩

/-- Little-endian bytes of `DEC_RANGE tx` (R101 with BSEL = 1; 20_memory.md R65), and a short list. -/
theorem test_decode_bytes :
    decodeBytes [0x23, 0x01, 0x00, 0x00, 0xAA] = .ok (.decRange .tx, [0xAA]) ∧
    decodeBytes [0x23, 0x01, 0x00] = .error .truncated ∧
    decodeTableWord 32 0x00000131 = some (.ckVerify .tx) ∧ decodeTableWord 32 0x00000141 = none :=
  ⟨rfl, rfl, rfl, rfl⟩

/-- The assembler line of R98. -/
theorem test_line : (Instr.encRange .tx).line = "ENC_RANGE tx" ∧ Instr.txPutU8.line = "TX_PUT_U8" := by decide

/-! ### WellFormed: one ill-formed word for each check (R94) -/

theorem test_wellFormed_reserved : rsvZero 0x00010020 = false ∧ legalWord 0x00010020 = false := by decide

theorem test_wellFormed_opcode : opcAssigned 0x000000FF = false ∧ legalWord 0x000000FF = false := by decide

theorem test_wellFormed_bsel : bselAllowed 0x00000141 = false ∧ legalWord 0x00000141 = false := by decide

theorem test_wellFormed_accepts : legalWord 0x00000131 = true ∧ (Instr.ckVerify .tx).wellFormed = true := by decide

/-! ### One step of each instruction -/

/-- R240: NOP sets DONE and changes no flag else. -/
theorem test_nop : (after .nop State.reset).statusWord = 0x00000004 := by decide +kernel

/-- 95_test_vectors.md V-KS1, P[0]. -/
theorem test_ksInit_zero_key :
    (after .ksInit (loaded 8 0 (Vector.replicate 56 0) (Vector.replicate 56 0))).cipher.p.get 0 = 0x706D9FCC := by
  decide +kernel

/-- 95_test_vectors.md, key-schedule errors: KEYLEN = 57. -/
theorem test_ksInit_long_key :
    (after .ksInit { loaded 57 0 (Vector.replicate 56 1) (Vector.replicate 56 1) with keyValid := true }).statusWord
      = 0x00000104 := by
  decide +kernel

/-- The bytes of "abc" and of "salty" in a window (95_test_vectors.md V-KS5). -/
def abc : Vector Byte 56 := ((Vector.replicate 56 0).set 0 0x61).set 1 0x62 |>.set 2 0x63

/-- See `abc`. -/
def salty : Vector Byte 56 :=
  ((Vector.replicate 56 0).set 0 0x73).set 1 0x61 |>.set 2 0x6C |>.set 3 0x74 |>.set 4 0x79

/-- 95_test_vectors.md V-KS5, P[0]. -/
theorem test_ksInitSalt_salty : (after .ksInitSalt (loaded 3 5 abc salty)).cipher.p.get 0 = 0x9CEA240F := by
  decide +kernel

/-- 95_test_vectors.md, key-schedule errors: KEYLEN = 0 and SALTLEN = 57, the key first; and KEYLEN = 3. -/
theorem test_ksInitSalt_errors :
    (after .ksInitSalt (loaded 0 57 abc salty)).err.code = 0x01 ∧
    (after .ksInitSalt (loaded 3 57 abc salty)).err.code = 0x07 := by
  decide +kernel

/-- 41_key_schedule.md R160, the XOR of all 1042 initial words. -/
theorem test_key_tables :
    initCipher.s.toList.foldl (fun x t => t.toList.foldl (· ^^^ ·) x) (initCipher.p.toList.foldl (· ^^^ ·) 0)
      = 0x6FFA520A := by
  decide +kernel

/-- 95_test_vectors.md §3, the round function over the initial S-boxes, and the key words of "abc". -/
theorem test_round_function_and_key_words :
    initCipher.f 0xDEADBEEF = 0x5713DC03 ∧ initCipher.f 0x01020304 = 0x3CEDFF8C ∧
    (seedKeys [0x61, 0x62, 0x63] (List.finRange 18) 0 initCipher.p).get 1 = 0xE7C069B1 := by
  decide +kernel

/-- R111 by hand over `flat`: the new left half is r XOR P[1], P[3], …, P[17], the right one is l XOR
P[0], P[2], …, P[16]. -/
theorem test_encBlk_flat :
    let t := after .encBlk { keyed 0 0 with cipher := flat, dataLo := 0x80000000, dataHi := 0x40000000 }
    t.dataLo = 0x4002AAAA ∧ t.dataHi = 0x80015555 := by decide +kernel

/-- 60_exceptions.md R250: KEY_NOT_VALID before any key schedule. -/
theorem test_encBlk_no_key : (after .encBlk State.reset).err.code = 0x06 := by decide +kernel

/-- R112 by hand over `flat`: DEC takes the result of `test_encBlk_flat` back. -/
theorem test_decBlk_flat :
    let t := after .decBlk { keyed 0 0 with cipher := flat, dataLo := 0x4002AAAA, dataHi := 0x80015555 }
    t.dataLo = 0x80000000 ∧ t.dataHi = 0x40000000 := by decide +kernel

/-- R116, R119 over `flat`: the block bytes are two little-endian words, at the last block of the buffer
(95_test_vectors.md: ROFF = 65528, RLEN = 8). -/
theorem test_encRange_last_block :
    bytes .tx 65528 8 (after (.encRange .tx)
      { put .tx 65528 [0, 0, 0, 0x80, 0, 0, 0, 0x40] (keyed 65528 8) with cipher := flat })
      = [0xAA, 0xAA, 0x02, 0x40, 0x55, 0x55, 0x01, 0x80] := by decide +kernel

/-- 95_test_vectors.md, range commands: RLEN = 12, ROFF = 65530 and RLEN = 8, no key. -/
theorem test_encRange_errors :
    (after (.encRange .rx) (keyed 0 12)).err.code = 0x02 ∧ (after (.encRange .rx) (keyed 65530 8)).err.code = 0x08 ∧
    (after (.encRange .rx) (range 0 12)).err.code = 0x06 := by decide +kernel

/-- R117, R119 over `flat`. -/
theorem test_decRange_two_blocks :
    bytes .rx 1 16 (after (.decRange .rx)
      { put .rx 1 [0xAA, 0xAA, 0x02, 0x40, 0x55, 0x55, 0x01, 0x80, 0xAA, 0xAA, 0x02, 0, 0x55, 0x55, 0x01, 0]
          (keyed 1 16) with cipher := flat })
      = [0, 0, 0, 0x80, 0, 0, 0, 0x40, 0, 0, 0, 0, 0, 0, 0, 0] := by decide +kernel

/-- 95_test_vectors.md: the whole length at offset 1 passes the end. -/
theorem test_decRange_past_end : (after (.decRange .tx) (keyed 1 65536)).err.code = 0x08 := by decide +kernel

/-- 95_test_vectors.md V-CK3. -/
def ck3 : State := put .tx 2 [1, 2, 3, 4, 5, 6, 7, 8, 0, 0, 0, 0] (range 2 12)

/-- 95_test_vectors.md V-CK3: CKSUM and the slot. -/
theorem test_ckWrite :
    (after (.ckWrite .tx) ck3).cksum = 0x0C040404 ∧
    bytes .tx 10 4 (after (.ckWrite .tx) ck3) = [4, 4, 4, 0x0C] := by decide +kernel

/-- 95_test_vectors.md V-CK5 and V-CK6. -/
theorem test_ckWrite_errors :
    (after (.ckWrite .tx) (range 0 0)).err.code = 0x0A ∧ (after (.ckWrite .tx) (range 0 6)).err.code = 0x0A ∧
    (after (.ckWrite .tx) (range 65534 4)).err.code = 0x08 := by decide +kernel

/-- 95_test_vectors.md V-CK3: the check succeeds after CK_WRITE. -/
theorem test_ckVerify_ok : (after (.ckVerify .tx) (after (.ckWrite .tx) ck3)).err.code = 0x00 := by
  decide +kernel

/-- 95_test_vectors.md V-CK3: bit 7 of TX[2] flipped. -/
theorem test_ckVerify_flip :
    let t := after (.ckVerify .tx) (put .tx 2 [0x81] (after (.ckWrite .tx) ck3))
    t.err.code = 0x04 ∧ t.cksum = 0x0C040484 := by decide +kernel

/-- R172. -/
theorem test_txClear : (after .txClear (tx 0 0 65536)).txLen = 0 := by decide +kernel

/-- 95_test_vectors.md, writer vectors: TX_PUT_U8 of 0x1FF. -/
theorem test_txPutU8 :
    bytes .tx 26 1 (after .txPutU8 (tx 0x1FF 0 26)) = [0xFF] ∧ (after .txPutU8 (tx 0x1FF 0 26)).txLen = 27 := by
  decide +kernel

/-- 95_test_vectors.md: TX_PUT_U8 with TX_LEN = 65535 fills the buffer. -/
theorem test_txPutU8_last : (after .txPutU8 (tx 0 0 65535)).txLen = 65536 := by decide +kernel

/-- 95_test_vectors.md, writer vectors. -/
theorem test_txPutU16 : bytes .tx 0 2 (after .txPutU16 (tx 0x1234 0 0)) = [0x34, 0x12] := by decide +kernel

/-- 95_test_vectors.md: TX_PUT_U16 with TX_LEN = 65535. -/
theorem test_txPutU16_overflow :
    (after .txPutU16 (tx 0 0 65535)).err.code = 0x09 ∧ (after .txPutU16 (tx 0 0 65535)).txLen = 65535 := by
  decide +kernel

/-- 95_test_vectors.md, writer vectors. -/
theorem test_txPutU32 :
    bytes .tx 2 4 (after .txPutU32 (tx 0xDEADBEEF 0 2)) = [0xEF, 0xBE, 0xAD, 0xDE] := by decide +kernel

/-- 95_test_vectors.md, writer vectors. -/
theorem test_txPutU64 :
    bytes .tx 6 8 (after .txPutU64 (tx 0x89ABCDEF 0x01234567 6))
      = [0xEF, 0xCD, 0xAB, 0x89, 0x67, 0x45, 0x23, 0x01] := by decide +kernel

/-- 95_test_vectors.md, writer vectors. -/
theorem test_txPutF32 :
    bytes .tx 14 4 (after .txPutF32 (tx 0x3F800000 0 14)) = [0x00, 0x00, 0x80, 0x3F] := by decide +kernel

/-- 95_test_vectors.md, writer vectors. -/
theorem test_txPutF64 :
    bytes .tx 18 8 (after .txPutF64 (tx 0 0x3FF00000 18)) = [0, 0, 0, 0, 0, 0, 0xF0, 0x3F] := by decide +kernel

/-- 95_test_vectors.md P2: 28 bytes committed at TX_LEN = 3. -/
theorem test_txPutRaw : (after .txPutRaw { tx 0 0 3 with rlen := 28 }).txLen = 31 := by decide +kernel

/-- R179: one byte too many. -/
theorem test_txPutRaw_overflow : (after .txPutRaw { tx 0 0 1 with rlen := 65536 }).err.code = 0x09 := by
  decide +kernel

/-- 95_test_vectors.md, writer vectors: 27 is 1B 00. -/
theorem test_txSeal : bytes .tx 0 2 (after .txSeal (tx 0 0 27)) = [0x1B, 0x00] := by decide +kernel

/-- 95_test_vectors.md, writer vectors: TX_LEN = 65536 and TX_LEN = 1. -/
theorem test_txSeal_errors :
    (after .txSeal (tx 0 0 65536)).err.code = 0x0B ∧ (after .txSeal (tx 0 0 1)).err.code = 0x0B := by
  decide +kernel

/-- The stream of 95_test_vectors.md P6. -/
def p6 : List Byte :=
  [0xAB, 0xEF, 0xBE, 0xEF, 0xBE, 0xAD, 0xDE, 0xEF, 0xCD, 0xAB, 0x89, 0x67, 0x45, 0x23, 0x01] ++
  [0x00, 0x00, 0x80, 0xBF, 0x18, 0x2D, 0x44, 0x54, 0xFB, 0x21, 0x09, 0x40]

/-- What P6 shows of a reader command: DATA_LO, DATA_HI, RX_POS. -/
def seen (s : State) : Word × Word × Nat := (s.dataLo, s.dataHi, s.rxPos.toNat)

/-- R190. -/
theorem test_rxStart : (after .rxStart (rx p6 27)).rxPos = 0 := by decide +kernel

theorem test_rxGetU8 : seen (after .rxGetU8 (rx p6 0)) = (0xAB, 0, 1) := by decide +kernel

/-- 95_test_vectors.md P6, its last command: the stream is used up. -/
theorem test_rxGetU8_short :
    (after .rxGetU8 (rx p6 27)).err.code = 0x03 ∧ (after .rxGetU8 (rx p6 27)).rxPos = 27 := by decide +kernel

theorem test_rxGetU16 : seen (after .rxGetU16 (rx p6 1)) = (0xBEEF, 0, 3) := by decide +kernel

/-- 95_test_vectors.md, reader corner cases: one byte left. -/
theorem test_rxGetU16_short : (after .rxGetU16 (rx p6 26)).err.code = 0x03 := by decide +kernel

theorem test_rxGetU32 : seen (after .rxGetU32 (rx p6 3)) = (0xDEADBEEF, 0, 7) := by decide +kernel

theorem test_rxGetU64 : seen (after .rxGetU64 (rx p6 7)) = (0x89ABCDEF, 0x01234567, 15) := by decide +kernel

theorem test_rxGetF32 : seen (after .rxGetF32 (rx p6 15)) = (0xBF800000, 0, 19) := by decide +kernel

theorem test_rxGetF64 : seen (after .rxGetF64 (rx p6 19)) = (0x54442D18, 0x400921FB, 27) := by decide +kernel

/-- 95_test_vectors.md, reader corner cases. -/
theorem test_rxGetRaw :
    seen (after .rxGetRaw { State.reset with rxPos := 3, rxLen := 40, rlen := 14 }) = (3, 0, 17) := by
  decide +kernel

/-- 95_test_vectors.md, reader corner cases: RLEN = 0 at the end of the stream. -/
theorem test_rxGetRaw_none :
    (after .rxGetRaw { State.reset with rxPos := 40, rxLen := 40 }).err.code = 0x00 := by decide +kernel

/-- A row of the RX_FRAME vectors: header L at RX[p], ROFF = 0x77, RLEN = 0x99 before. -/
def frame (lo hi : Byte) (len p : BitVec 17) : State :=
  { put .rx p.toNat [lo, hi] (range 0x77 0x99) with rxLen := len, rxPos := p }

/-- What those vectors show: the result, DATA_LO, RX_POS, ROFF, RLEN. -/
def shown (s : State) : Byte × Word × Nat × Nat × Nat :=
  (s.err.code, s.dataLo, s.rxPos.toNat, s.roff.toNat, s.rlen.toNat)

/-- 95_test_vectors.md V-FR1, V-FR8, V-FR9, V-FR10. -/
theorem test_rxFrame_accepted :
    shown (after .rxFrame (frame 42 0 42 0)) = (0, 42, 42, 2, 40) ∧
    shown (after .rxFrame (frame 10 0 10 0)) = (0, 10, 10, 2, 8) ∧
    shown (after .rxFrame (frame 10 0 20 10)) = (0, 10, 20, 12, 8) ∧
    shown (after .rxFrame (frame 0xFA 0xFF 65536 0)) = (0, 65530, 65530, 2, 65528) := by decide +kernel

/-- 95_test_vectors.md V-FR2 to V-FR7, V-FR11 and V-FR12. -/
theorem test_rxFrame_errors :
    [frame 9 9 1 0, frame 42 0 41 0, frame 12 0 12 0, frame 0 0 2 0].map (fun s => shown (after .rxFrame s)) =
      [(3, 0, 0, 0x77, 0x99), (3, 42, 0, 0x77, 0x99), (2, 12, 12, 0x77, 0x99), (2, 0, 2, 0x77, 0x99)] ∧
    [frame 1 0 5 0, frame 2 0 2 0, frame 0xFF 0xFF 65536 0, frame 50 0 2 0].map
        (fun s => shown (after .rxFrame s)) =
      [(2, 1, 2, 0x77, 0x99), (2, 2, 2, 0x77, 0x99), (2, 65535, 65535, 0x77, 0x99), (3, 50, 0, 0x77, 0x99)] := by
  decide +kernel

/-! ### The host port and the turns -/

/-- R41: 0x1FFFF written to RX_LEN reads back 0x10000; R31: ID. -/
theorem test_host_registers :
    (hostAccess (.read .w32 0x030) (hostAccess (.write .w32 0x030 0x1FFFF) State.reset)).rdata = 0x10000 ∧
    (hostAccess (.read .w32 0x000) State.reset).rdata = 0x46434501 := by decide +kernel

/-- 95_test_vectors.md §4: a CMD write in the BUSY window is dropped; a 16-bit write to CMD is a bus error. -/
theorem test_host_dropped_and_bus_error :
    (hostAccess (.write .w32 0x00C 0x20) (latched 0x10)).statusWord = 0x00000009 ∧
    (hostAccess (.write .w16 0x00C 0x20) State.reset).statusWord = 0x00000010 := by decide +kernel

/-- R65: a 16-bit buffer write is little-endian, and an 8-bit read is zero-extended. -/
theorem test_host_buffer :
    (hostAccess (.read .w8 0x1FFFF) (hostAccess (.write .w16 0x1FFFE 0xABCD) State.reset)).rdata = 0xAB := by
  decide +kernel

/-- R241, R242: a command issued by the host completes at the next ENGINE turn, and the host sees DONE. -/
theorem test_issue_and_complete :
    (goesTo (step (goesTo (step { State.reset with agenda := [cmd .rxStart, .engine] })))).statusWord = 4 := by
  decide +kernel

/-- R243: each illegal word completes with 0x05. -/
theorem test_illegal_word :
    (goesTo (step (latched 0x141))).statusWord = 0x504 ∧ (goesTo (step (latched 0xFF))).statusWord = 0x504 ∧
    (goesTo (step (latched 0x10020))).statusWord = 0x504 := by decide +kernel

/-- The command that `withFetchWord` places is the one the next step runs. -/
theorem test_withFetchWord :
    step (State.reset.withFetchWord 32 0x40) = exec .txClear (State.reset.withFetchWord 32 0x40) := rfl

/-- Two instances that touch each other, at FCE_BASE 0x80000000 and 0x80040000. -/
def twoPlaces : List Placement := [⟨0x80000000, 1, 0, 0⟩, ⟨0x80040000, 2, 0, 100⟩]

/-- R276: an access reaches the instance whose window holds its address, and no other; R82: at FCE_BASE + offset. -/
theorem test_platform_access :
    (busAccess twoPlaces (.write .w32 0x80040010 5) [State.reset, State.powerOn 100]).map (·.keyLen) = [0, 5] ∧
    (busAccess twoPlaces (.write .w32 0x80080010 5) [State.reset, State.powerOn 100]).map (·.keyLen) = [0, 0] := by
  decide +kernel

/-! ### States and operands that meet the hypotheses of each obligation, clause by clause

A statement with no hypothesis on the state (NopCompletes, KeySchedulesZeroize, ClearAndStart, StatusRegister and
the like) needs none. -/

theorem test_hyps_DecodeInvertsEncode :
    (Instr.encRange .tx).wellFormed = true ∧ Instr.rxFrame.wellFormed = true := by decide

theorem test_hyps_IllegalWordsComplete :
    (latched 0x00010020).busy = true ∧ (latched 0x00010020).agenda = [] ∧
    decodeWord (latched 0x00010020).cmdw = .error .reservedBits ∧
    decodeWord (latched 0x000000FF).cmdw = .error .unassignedOpcode ∧
    decodeWord (latched 0x00000141).cmdw = .error .bselNotAllowed ∧
    ({ latched 0x141 with agenda := [.engine] } : State).agenda = .engine :: [] :=
  ⟨rfl, rfl, rfl, rfl, rfl, rfl⟩

theorem test_hyps_StepRunsDecodedCommand :
    (latched 0x131).busy = true ∧ decodeWord (latched 0x131).cmdw = .ok (.ckVerify .tx) ∧
    (Instr.ckVerify .tx).wellFormed = true ∧ (latched 0x131).agenda = [] ∧
    ({ latched 0x131 with agenda := [.engine, .resetInput] } : State).agenda = .engine :: [.resetInput] :=
  ⟨rfl, rfl, rfl, rfl, rfl⟩

theorem test_hyps_TurnsInterleave :
    ({ State.reset with agenda := [rd32 .id] } : State).agenda = .host (.read .w32 0x000) :: [] ∧
    ({ State.reset with agenda := [.engine] } : State).agenda = .engine :: [] ∧
    State.reset.busy = false ∧ State.reset.agenda = [] := ⟨rfl, rfl, rfl, rfl⟩

theorem test_hyps_EveryCommandCompletes :
    (latched 0x10).busy = true ∧ (latched 0xFFFFFFFF).busy = true ∧ State.reset.busy = false :=
  ⟨rfl, rfl, rfl⟩

/-- A key schedule, RX_FRAME (its three kinds of error), CK_VERIFY (both kinds) and another command, each with an
error: the first components are the states the clauses speak of. -/
theorem test_hyps_ErrorsChangeOnlyNamedState :
    (after .ksInit State.reset).err ≠ .ok ∧ (after .ksInitSalt (loaded 56 57 abc salty)).err ≠ .ok ∧
    (after .rxFrame (frame 9 9 1 0)).err = .shortRead ∧ (frame 9 9 1 0).rxLen.toNat < (frame 9 9 1 0).rxPos.toNat + 2 ∧
    (after .rxFrame (frame 42 0 41 0)).err = .shortRead ∧
    (after .rxFrame (frame 12 0 12 0)).err = .invalidBlockAlignment ∧
    (after (.ckVerify .rx) (range 0 0)).err = .invalidChecksumLength ∧
    (after (.ckVerify .tx) (put .tx 2 [0x81] (after (.ckWrite .tx) ck3))).err = .checksumMismatch ∧
    (after .encBlk State.reset).err ≠ .ok ∧ (after .txPutU16 (tx 0 0 65535)).err ≠ .ok := by decide +kernel

theorem test_hyps_OnlyKeySchedulesWriteCipher :
    (∃ t, exec .nop State.reset = .next t) ∧
    (∀ w off d, HostAccess.write .w32 0x004 1 = .write w off d → off.toNat = 0x004 → d.getLsbD 1 = false) ∧
    (∃ t, ({ State.reset with agenda := [.resetInput] } : State).agenda = .resetInput :: [] ∧
      step { State.reset with agenda := [.resetInput] } = .next t) :=
  ⟨⟨_, rfl⟩, fun _ _ _ h _ => (by cases h; rfl), ⟨_, rfl, rfl⟩⟩

/-- The clause on steps: a write of IE while TX_CLEAR runs. -/
theorem test_hyps_OnlyKeySchedulesWriteCipher_step :
    let s : State := { latched 0x40 with agenda := [wr32 .ctrl 1] }
    (∃ t, step s = .next t) ∧ (∀ rest, s.agenda ≠ .resetInput :: rest) ∧
    (∀ w off d rest, s.agenda = .host (.write w off d) :: rest → off.toNat = 0x004 → d.getLsbD 1 = false) ∧
    decodeWord s.cmdw = .ok .txClear := by
  refine ⟨⟨_, rfl⟩, fun rest h => ?_, fun w off d rest h _ => ?_, rfl⟩
  · cases h
  · cases h; rfl

theorem test_hyps_StepKeepsInvariant :
    State.reset.inv = true ∧ (∃ t, step State.reset = .next t) ∧
    ({ put .tx 0 [1, 2] (tx 0 0 65536) with rxPos := 65536, rxLen := 65536 } : State).inv = true ∧
    ({ tx 0 0 65537 with rxPos := 65536 } : State).inv = false := by
  exact ⟨by decide +kernel, ⟨_, rfl⟩, by decide +kernel, by decide +kernel⟩

theorem test_isBuilt : (keySchedule [1] []).isBuilt := ⟨[1], [], by decide, by decide, by decide, rfl⟩

/-- The invariant holds with KEY_VALID = 0, and with KEY_VALID = 1 over a schedule that was built. -/
theorem test_hyps_StepKeepsKeySound :
    State.reset.keySound ∧ (∃ t, step State.reset = .next t) ∧
    (State.reset.installCipher (keySchedule [1] [])).keyValid = true ∧
    (State.reset.installCipher (keySchedule [1] [])).keySound :=
  ⟨fun h => (Bool.false_ne_true h).elim, ⟨_, rfl⟩, rfl, fun _ => test_isBuilt⟩

theorem test_hyps_PowerOnReset :
    ({ latched 0x10 with agenda := [.resetInput, .engine] } : State).agenda = .resetInput :: [.engine] ∧
    State.powerOn 7 = State.powerOn 7 := ⟨rfl, rfl⟩

theorem test_hyps_SoftReset :
    (2 : Word).getLsbD 1 = true ∧ (3 : Word).getLsbD 1 = true ∧ State.reset.busy = false := by decide

/-- A running ENC_RANGE, DEC_RANGE, CK_WRITE, TX_PUT_U64, TX_SEAL, a command that writes no buffer byte, and an
illegal word. -/
theorem test_hyps_SoftResetAbortsCommand :
    (2 : Word).getLsbD 1 = true ∧ (latched 0x122).busy = true ∧
    decodeWord (latched 0x122).cmdw = .ok (.encRange .tx) ∧ decodeWord (latched 0x23).cmdw = .ok (.decRange .rx) ∧
    decodeWord (latched 0x130).cmdw = .ok (.ckWrite .tx) ∧ decodeWord (latched 0x44).cmdw = .ok .txPutU64 ∧
    decodeWord (latched 0x48).cmdw = .ok .txSeal ∧ decodeWord (latched 0x58).cmdw = .ok .rxFrame ∧
    (latched 0x141).busy = true ∧ decodeWord (latched 0x141).cmdw = .error .bselNotAllowed :=
  ⟨rfl, rfl, rfl, rfl, rfl, rfl, rfl, rfl, rfl, rfl⟩

theorem test_hyps_IssueLatchesCommand : (latched 0).busy = true ∧ State.reset.busy = false := ⟨rfl, rfl⟩

/-- The offsets on both sides of CTRL and STATUS, and the last buffer word. -/
theorem test_hyps_BusyWindowDropsWrites :
    (latched 0).busy = true ∧ busError .w32 0x000 = false ∧ busError .w32 0x00C = false ∧
    busError .w8 0x2FFFF = false ∧ busError .w32 0x004 = false ∧ busError .w32 0x008 = false ∧
    (1 : Word).getLsbD 1 = false ∧ (2 : Word).getLsbD 1 = true := by decide

/-- The two places where the clauses meet: the last register and the first key byte, both of them 8-bit, and
offsets off by one or by two. -/
theorem test_hyps_BusErrors :
    (0x3F < 0x40 ∧ Width.w8 ≠ .w32) ∧ ¬(0x40 < 0x40) ∧ 0x40 % 2 = 0 ∧ 0x41 % 2 ≠ 0 ∧ 0x2FFFE % 4 ≠ 0 ∧
    0x2FFFC % 4 = 0 ∧ busError .w8 0x40 = false ∧ busError .w16 0x41 = true ∧ busError .w32 0x2FFFE = true := by
  decide

/-- Both ends of each range: 0x10 and 0x34, 0x10000 and 0x2FFFF; 0x38 and 0xFFFF, 0x30000 and 0x3FFFF. -/
theorem test_hyps_BusyWindowReads :
    (latched 0).busy = true ∧ busError .w32 0x10 = false ∧ busError .w32 0x34 = false ∧
    busError .w32 0x10000 = false ∧ busError .w8 0x2FFFF = false ∧ busError .w32 0x38 = false ∧
    busError .w8 0xFFFF = false ∧ busError .w32 0x30000 = false ∧ busError .w8 0x3FFFF = false ∧
    steadyInBusy (regionAt 0x34) = false ∧ steadyInBusy (regionAt 0x38) = true := by decide

theorem test_hyps_BufferWindowAccess :
    State.reset.busy = false ∧ 0x10000 % Width.w32.bytes = 0 ∧ 0x2FFFF % Width.w8.bytes = 0 ∧
    0x2FFFE % Width.w16.bytes = 0 ∧ 0x2FFFC % Width.w32.bytes = 0 ∧ 0x2FFFF < 0x30000 := by decide

theorem test_hyps_KeyAndSaltWindows :
    State.reset.busy = false ∧ 55 % Width.w8.bytes = 0 ∧ 54 % Width.w16.bytes = 0 ∧ 52 % Width.w32.bytes = 0 ∧
    0 % Width.w32.bytes = 0 ∧ (hostAccess (.write .w32 0x074 0x04030201) State.reset).key.get 55 = 4 := by
  decide +kernel

/-- Both ends of each range of reserved offsets. -/
theorem test_hyps_RegisterWrites :
    State.reset.busy = false ∧ (0xFFFFFFFD : Word).getLsbD 1 = false ∧
    (0x38#18).toNat % Width.w32.bytes = 0 ∧ (0x3C#18).toNat % Width.w32.bytes = 0 ∧ (0x3C#18).toNat < 0x40 ∧
    (0x78#18).toNat % Width.w32.bytes = 0 ∧ (0x7F#18).toNat % Width.w8.bytes = 0 ∧ (0x7F#18).toNat < 0x80 ∧
    (0xB8#18).toNat % Width.w32.bytes = 0 ∧ (0xFFFE#18).toNat % Width.w16.bytes = 0 ∧ (0xFFFE#18).toNat < 0x10000 ∧
    0x30000 ≤ (0x30000#18).toNat ∧ (0x3FFFF#18).toNat % Width.w8.bytes = 0 := by decide

theorem test_hyps_IrqLine : ∃ t, step { State.reset with ie := true, done := true } = .next t := ⟨_, rfl⟩

theorem test_hyps_HostReadsNoSecrets :
    loaded 0 0 abc salty = { State.reset with cipher := (loaded 0 0 abc salty).cipher, key := abc, salt := salty } :=
  rfl

theorem test_hyps_OperandsStableInBusyWindow :
    (latched 0x20).busy = true ∧
    (∀ x ∈ [HostAccess.write .w32 0x020 7, .write .w32 0x004 1, .read .w32 0x020],
      ∀ w off d, x = .write w off d → off.toNat = 0x004 → d.getLsbD 1 = false) := by
  refine ⟨rfl, fun x hx w off d h h4 => ?_⟩
  simp only [List.mem_cons, List.not_mem_nil, or_false] at hx
  rcases hx with rfl | rfl | rfl
  · cases h; exact absurd h4 (by decide)
  · cases h; rfl
  · cases h

theorem test_hyps_RoundFunction :
    (0xDEADBEEF : Word).toNat =
      (0xDE : Fin 256).val * 2 ^ 24 + (0xAD : Fin 256).val * 2 ^ 16 + (0xBE : Fin 256).val * 2 ^ 8 + (0xEF : Fin 256).val ∧
    (0xFFFFFFFF : Word).toNat =
      (255 : Fin 256).val * 2 ^ 24 + (255 : Fin 256).val * 2 ^ 16 + (255 : Fin 256).val * 2 ^ 8 + (255 : Fin 256).val := by
  decide

/-- The halves after k pairs of rounds of ENC(0, 0) over `flat`, whose F is 0. -/
def flatHalves : Nat → Word × Word
  | 0 => (flat.p.get 0, 0)
  | k + 1 =>
    let x := flatHalves k
    (x.1 ^^^ BitVec.twoPow 32 (2 * k + 2), x.2 ^^^ BitVec.twoPow 32 (2 * k + 1))

theorem test_hyps_EncAndDecRounds :
    (flatHalves 0).2 = 0 ∧ (flatHalves 0).1 = 0 ^^^ flat.p.get 0 ∧
    ∀ k : Fin 8,
      (flatHalves (k + 1)).2 = (flatHalves k).2 ^^^ flat.f (flatHalves k).1 ^^^ flat.p.get ⟨2 * k + 1, by omega⟩ ∧
      (flatHalves (k + 1)).1 = (flatHalves k).1 ^^^ flat.f (flatHalves (k + 1)).2 ^^^ flat.p.get ⟨2 * k + 2, by omega⟩ := by
  decide +kernel

/-- The same for DEC(0, 0). -/
def flatHalvesBack : Nat → Word × Word
  | 0 => (flat.p.get 17, 0)
  | k + 1 =>
    let x := flatHalvesBack k
    (x.1 ^^^ BitVec.twoPow 32 (15 - 2 * k), x.2 ^^^ BitVec.twoPow 32 (16 - 2 * k))

theorem test_hyps_EncAndDecRounds_dec :
    (flatHalvesBack 0).2 = 0 ∧ (flatHalvesBack 0).1 = 0 ^^^ flat.p.get 17 ∧
    ∀ k : Fin 8,
      (flatHalvesBack (k + 1)).2 =
        (flatHalvesBack k).2 ^^^ flat.f (flatHalvesBack k).1 ^^^ flat.p.get ⟨16 - 2 * k, by omega⟩ ∧
      (flatHalvesBack (k + 1)).1 =
        (flatHalvesBack k).1 ^^^ flat.f (flatHalvesBack (k + 1)).2 ^^^ flat.p.get ⟨15 - 2 * k, by omega⟩ := by
  decide +kernel

/-- For EncBlkResult, DecBlkResult and BlockCommandsRoundTrip. -/
theorem test_hyps_BlockCommands : (keyed 0 0).keyValid = true ∧ State.reset.keyValid = false := ⟨rfl, rfl⟩

/-- For RangeCiphersTransformBlocks and DecRangeUndoesEncRange: the first block, the last block, the whole buffer. -/
theorem test_hyps_RangeCiphers :
    (keyed 0 8).keyValid = true ∧ (keyed 0 8).rlen.toNat ≠ 0 ∧ (keyed 0 8).rlen.toNat % 8 = 0 ∧
    (keyed 65528 8).roff.toNat + (keyed 65528 8).rlen.toNat ≤ 65536 ∧ (keyed 0 65536).rlen.toNat % 8 = 0 ∧
    (keyed 0 65536).roff.toNat + (keyed 0 65536).rlen.toNat ≤ 65536 := by decide +kernel

theorem test_hyps_RangeCipherErrors :
    (range 0 8).keyValid = false ∧ (keyed 0 0).keyValid = true ∧ (keyed 0 0).rlen.toNat = 0 ∧
    (keyed 0 12).rlen.toNat % 8 ≠ 0 ∧ (keyed 65529 8).rlen.toNat % 8 = 0 ∧
    65536 < (keyed 65529 8).roff.toNat + (keyed 65529 8).rlen.toNat := by decide +kernel

/-- For KsInitResult and KsInitSaltResult: the lengths at both ends of each clause. -/
theorem test_hyps_KeySchedules :
    1 ≤ (loaded 1 56 abc salty).keyLen.toNat ∧ (loaded 1 56 abc salty).saltLen.toNat ≤ 56 ∧
    1 ≤ (loaded 56 0 abc salty).keyLen.toNat ∧ (loaded 56 0 abc salty).keyLen.toNat ≤ 56 ∧
    (loaded 0 0 abc salty).keyLen.toNat < 1 ∧ 56 < (loaded 57 0 abc salty).keyLen.toNat ∧
    56 < (loaded 255 0 abc salty).keyLen.toNat ∧ 56 < (loaded 56 57 abc salty).saltLen.toNat := by decide +kernel

theorem test_hyps_EmptySaltIsNoSalt : (loaded 3 0 abc salty).saltLen = 0 := rfl

/-- The running state at the start of a schedule salted with "salty" (V-KS5's salt), and the first two salt words of
41_key_schedule.md R142: they go into the left and the right half, and the cursor is at 8 mod 5. -/
theorem test_hyps_FillOrderCoversTables :
    (salty.toList.take 5) ≠ [] ∧ 521 ≤ 521 ∧ cyclicWord (salty.toList.take 5) 0 = (0x73616C74, 4) ∧
    cyclicWord (salty.toList.take 5) 4 = (0x7973616C, 3) ∧ 8 * 1 % (salty.toList.take 5).length = 3 := by
  decide +kernel

theorem test_hyps_WordStreamIsCyclic : ([0x61, 0x62, 0x63] : List Byte) ≠ [] ∧ 2 < [0x61, 0x62, 0x63].length := by
  decide

/-- Two states that differ in P and S and agree on key and salt, and a success of each. -/
theorem test_hyps_ScheduleIgnoresOldState :
    (loaded 3 5 abc salty).key = { loaded 3 5 abc salty with cipher := flat }.key ∧
    (∃ t, exec .ksInitSalt (loaded 3 5 abc salty) = .next t ∧ t.err = .ok) ∧
    (∃ t, exec .ksInitSalt { loaded 3 5 abc salty with cipher := flat } = .next t) :=
  ⟨rfl, ⟨_, rfl, by decide +kernel⟩, ⟨_, rfl⟩⟩

/-- For each put: the last place it fits at, and the first it does not. -/
theorem test_hyps_TxPutAppends :
    (tx 0 0 65535).txLen.toNat + 1 ≤ 65536 ∧ 65536 < (tx 0 0 65536).txLen.toNat + 1 ∧
    (tx 0 0 65534).txLen.toNat + 2 ≤ 65536 ∧ 65536 < (tx 0 0 65535).txLen.toNat + 2 ∧
    (tx 0 0 65532).txLen.toNat + 4 ≤ 65536 ∧ 65536 < (tx 0 0 65533).txLen.toNat + 4 ∧
    (tx 0 0 65528).txLen.toNat + 8 ≤ 65536 ∧ 65536 < (tx 0 0 65529).txLen.toNat + 8 := by decide +kernel

theorem test_hyps_TxPutRawCommits :
    ({ tx 0 0 1 with rlen := 65535 } : State).txLen.toNat + ({ tx 0 0 1 with rlen := 65535 } : State).rlen.toNat ≤ 65536 ∧
    65536 < ({ tx 0 0 1 with rlen := 65536 } : State).txLen.toNat + ({ tx 0 0 1 with rlen := 65536 } : State).rlen.toNat := by
  decide +kernel

theorem test_hyps_TxSealWritesLength :
    2 ≤ (tx 0 0 2).txLen.toNat ∧ (tx 0 0 65535).txLen.toNat ≤ 65535 ∧ (tx 0 0 1).txLen.toNat < 2 ∧
    65535 < (tx 0 0 65536).txLen.toNat := by decide +kernel

/-- For each get: the last place enough bytes are left at, and the first they are not. -/
theorem test_hyps_RxGetConsumes :
    (rx p6 26).rxPos.toNat + 1 ≤ (rx p6 26).rxLen.toNat ∧ (rx p6 27).rxLen.toNat < (rx p6 27).rxPos.toNat + 1 ∧
    (rx p6 25).rxPos.toNat + 2 ≤ (rx p6 25).rxLen.toNat ∧ (rx p6 26).rxLen.toNat < (rx p6 26).rxPos.toNat + 2 ∧
    (rx p6 23).rxPos.toNat + 4 ≤ (rx p6 23).rxLen.toNat ∧ (rx p6 24).rxLen.toNat < (rx p6 24).rxPos.toNat + 4 ∧
    (rx p6 19).rxPos.toNat + 8 ≤ (rx p6 19).rxLen.toNat ∧ (rx p6 20).rxLen.toNat < (rx p6 20).rxPos.toNat + 8 := by
  decide +kernel

theorem test_hyps_RxGetRawConsumes :
    ({ rx p6 3 with rlen := 24 } : State).rxPos.toNat + ({ rx p6 3 with rlen := 24 } : State).rlen.toNat ≤ 27 ∧
    (rx p6 3).rxLen.toNat = 27 ∧
    27 < ({ rx p6 3 with rlen := 25 } : State).rxPos.toNat + ({ rx p6 3 with rlen := 25 } : State).rlen.toNat := by
  decide +kernel

/-- The five outcomes, each at a boundary: one byte of header; L = 1; one byte of the frame missing; L = 2 (an empty
payload) and L = 9; L = 10. -/
theorem test_hyps_RxFrameAccepts :
    (frame 9 9 1 0).rxLen.toNat < 0 + 2 ∧ frameLength (frame 1 0 2 0) = 1 ∧
    (frameLength (frame 10 0 9 0) = 10 ∧ (frame 10 0 9 0).rxLen.toNat < 0 + 10) ∧
    frameLength (frame 2 0 2 0) = 2 ∧ (frameLength (frame 9 0 9 0) = 9 ∧ (9 - 2) % 8 ≠ 0) ∧
    (frameLength (frame 10 0 10 0) = 10 ∧ (10 - 2) % 8 = 0 ∧ 0 + 10 ≤ (frame 10 0 10 0).rxLen.toNat) ∧
    (frame 0xFA 0xFF 65536 0).rxLen.toNat ≤ 65536 := by decide +kernel

/-- An 8-byte put at the start of TXBUF and the get that finds its bytes at RX[7]; and the last places where both fit. -/
theorem test_hyps_CodecRoundTrip :
    (tx 0x89ABCDEF 0x01234567 0).txLen.toNat + 8 ≤ 65536 ∧ (rx p6 7).rxPos.toNat + 8 ≤ (rx p6 7).rxLen.toNat ∧
    bytes .rx 7 8 (rx p6 7) = bytes .tx 0 8 (after .txPutU64 (tx 0x89ABCDEF 0x01234567 0)) ∧
    (tx 0 0 65528).txLen.toNat + 8 ≤ 65536 ∧ (rx p6 19).rxPos.toNat + 8 ≤ (rx p6 19).rxLen.toNat := by decide +kernel

/-- For CkWriteResult, CkVerifyResult and VerifyAfterWriteSucceeds: V-CK3, V-CK5, V-CK6 and V-CK7. -/
theorem test_hyps_Checksum :
    ck3.rlen.toNat ≠ 0 ∧ ck3.rlen.toNat % 4 = 0 ∧ ck3.roff.toNat + ck3.rlen.toNat ≤ 65536 ∧
    (range 65532 4).rlen.toNat % 4 = 0 ∧ (range 65532 4).roff.toNat + (range 65532 4).rlen.toNat ≤ 65536 ∧
    (range 0 0).rlen.toNat = 0 ∧ (range 0 6).rlen.toNat % 4 ≠ 0 ∧
    65536 < (range 65533 4).roff.toNat + (range 65533 4).rlen.toNat := by decide +kernel

/-- V-CK3 after CK_WRITE. -/
def ck3w : State := after (.ckWrite .tx) ck3

/-- V-CK3 with bit 7 of its first byte flipped, and with bit 0 of the slot's last byte flipped. -/
theorem test_hyps_SingleBitFlipDetected :
    (∃ t, exec (.ckVerify .tx) ck3w = .next t ∧ t.err = .ok) ∧ ck3w.rlen.toNat = 12 ∧ ck3w.roff.toNat = 2 ∧
    rangeAddr .tx ck3w = 0x20002 ∧ 0x2000D < rangeAddr .tx ck3w + ck3w.rlen.toNat ∧
    (put .tx 2 [0x81] ck3w).mem.read 0x20002 = ck3w.mem.read 0x20002 ^^^ BitVec.twoPow 8 7 ∧
    (∀ y, y ≠ 0x20002 → (put .tx 2 [0x81] ck3w).mem.read y = ck3w.mem.read y) ∧
    (put .tx 13 [0x0D] ck3w).mem.read 0x2000D = ck3w.mem.read 0x2000D ^^^ BitVec.twoPow 8 0 ∧
    (∀ y, y ≠ 0x2000D → (put .tx 13 [0x0D] ck3w).mem.read y = ck3w.mem.read y) :=
  ⟨⟨_, rfl, by decide +kernel⟩, by decide +kernel, by decide +kernel, by decide +kernel, by decide +kernel,
    by decide +kernel, fun _ h => Memory.read_write_other _ _ h, by decide +kernel,
    fun _ h => Memory.read_write_other _ _ h⟩

/-- V-CK3 with bit 7 of its first two words flipped. -/
def ck3two : State := put .tx 6 [0x85] (put .tx 2 [0x81] ck3w)

theorem test_hyps_TwoFlipsCancel :
    (∃ t, exec (.ckVerify .tx) ck3w = .next t ∧ t.err = .ok) ∧ 0 < 1 ∧ 1 < ck3w.rlen.toNat / 4 - 1 ∧
    ck3two.mem.le32 (rangeAddr .tx ck3w + 4 * 0) = ck3w.mem.le32 (rangeAddr .tx ck3w + 4 * 0) ^^^ BitVec.twoPow 32 7 ∧
    ck3two.mem.le32 (rangeAddr .tx ck3w + 4 * 1) = ck3w.mem.le32 (rangeAddr .tx ck3w + 4 * 1) ^^^ BitVec.twoPow 32 7 ∧
    (∀ y, y < 0x20002 ∨ 0x20006 ≤ y → y < 0x20006 ∨ 0x2000A ≤ y → ck3two.mem.read y = ck3w.mem.read y) := by
  refine ⟨⟨_, rfl, by decide +kernel⟩, by decide, by decide +kernel, by decide +kernel, by decide +kernel,
    fun y h1 h2 => ?_⟩
  exact (Memory.read_write_other _ _ (show y ≠ 0x20006 by omega)).trans
    (Memory.read_write_other _ _ (show y ≠ 0x20002 by omega))

end Sys2Proof.Tests
end

/-! PROOF. The step by its next turn, and how the turns of the HOST and the ENGINE interleave (00_scope.md R12). -/

namespace Sys2Proof.Machine

section
variable {s : State} {rest : List Turn}

theorem step_of_agenda_nil (h : s.agenda = []) : step s = engineTurn s := by
  simpa [h] using step_cases s

theorem step_of_agenda_engine (h : s.agenda = .engine :: rest) :
    step s = engineTurn (s.setAgenda rest) := by
  simpa [h] using step_cases s

theorem step_of_agenda_host {x : HostAccess} (h : s.agenda = .host x :: rest) :
    step s = .next (hostAccess x (s.setAgenda rest)) := by
  simpa [h] using step_cases s

end

end Sys2Proof.Machine

namespace Sys2Proof.Proofs
open Sys2Proof.Machine

/-- Settles O6: the step is its next turn, and a turn of the ENGINE with BUSY = 0 is void (`engineTurn_idle`). -/
theorem turnsInterleave : Obligations.TurnsInterleave := by
  refine ⟨fun s x rest hHost => ?host, fun s rest hIdle hEngine => ?void, fun s hIdle hNone => ?wait⟩
  case host => exact step_of_agenda_host hHost
  case void => exact (step_of_agenda_engine hEngine).trans (engineTurn_idle hIdle)
  case wait => exact (step_of_agenda_nil hNone).trans (engineTurn_idle hIdle)

end Sys2Proof.Proofs

/-! PROOF. What a command, a host access and a step can do, said once for the invariants: a command other than the two
key schedules is one of the completions of `PlainCompletion` and keeps the fields of `CommandFrame` (10_state.md R22 to
R28, 44_control.md R242); a host access is a soft reset or keeps the fields of `HostFrame` (R26, 20_memory.md R70). -/

namespace Sys2Proof.Machine

/-! ### Commands -/

/-- The completions of the commands other than KS_INIT and KS_INIT_SALT. -/
inductive PlainCompletion (s : State) : State → Prop where
  | nop : PlainCompletion s (s.complete .ok)
  | cryptBlock (f : Block → Block) : PlainCompletion s (cryptBlock f s)
  | cryptRange (f : Block → Block) (b : BufSel) : PlainCompletion s (cryptRange f b s)
  | ckWrite (b : BufSel) : PlainCompletion s (ckWrite b s)
  | ckVerify (b : BufSel) : PlainCompletion s (ckVerify b s)
  | txClear : PlainCompletion s ((s.setTxLen 0).complete .ok)
  | append (n v : Nat) : PlainCompletion s (appendValue n v s)
  | txPutRaw : PlainCompletion s (txPutRaw s)
  | txSeal : PlainCompletion s (txSeal s)
  | rxStart : PlainCompletion s ((s.setRxPos 0).complete .ok)
  | get (n : Nat) : PlainCompletion s (getValue n s)
  | rxGetRaw : PlainCompletion s (rxGetRaw s)
  | rxFrame : PlainCompletion s (rxFrame s)

theorem exec_plainCompletion {i : Instr} (s : State) (h1 : i ≠ .ksInit) (h2 : i ≠ .ksInitSalt) :
    ∃ t, PlainCompletion s t ∧ exec i s = .next t := by
  cases i
  case ksInit => exact absurd rfl h1
  case ksInitSalt => exact absurd rfl h2
  case nop => exact ⟨_, .nop, exec_nop s⟩
  case encBlk => exact ⟨_, .cryptBlock _, exec_encBlk s⟩
  case decBlk => exact ⟨_, .cryptBlock _, exec_decBlk s⟩
  case encRange b => exact ⟨_, .cryptRange _ b, exec_encRange b s⟩
  case decRange b => exact ⟨_, .cryptRange _ b, exec_decRange b s⟩
  case ckWrite b => exact ⟨_, .ckWrite b, exec_ckWrite b s⟩
  case ckVerify b => exact ⟨_, .ckVerify b, exec_ckVerify b s⟩
  case txClear => exact ⟨_, .txClear, exec_txClear s⟩
  case txPutU8 => exact ⟨_, .append 1 _, exec_txPutU8 s⟩
  case txPutU16 => exact ⟨_, .append 2 _, exec_txPutU16 s⟩
  case txPutU32 => exact ⟨_, .append 4 _, exec_txPutU32 s⟩
  case txPutU64 => exact ⟨_, .append 8 _, exec_txPutU64 s⟩
  case txPutF32 => exact ⟨_, .append 4 _, exec_txPutF32 s⟩
  case txPutF64 => exact ⟨_, .append 8 _, exec_txPutF64 s⟩
  case txPutRaw => exact ⟨_, .txPutRaw, exec_txPutRaw s⟩
  case txSeal => exact ⟨_, .txSeal, exec_txSeal s⟩
  case rxStart => exact ⟨_, .rxStart, exec_rxStart s⟩
  case rxGetU8 => exact ⟨_, .get 1, exec_rxGetU8 s⟩
  case rxGetU16 => exact ⟨_, .get 2, exec_rxGetU16 s⟩
  case rxGetU32 => exact ⟨_, .get 4, exec_rxGetU32 s⟩
  case rxGetU64 => exact ⟨_, .get 8, exec_rxGetU64 s⟩
  case rxGetF32 => exact ⟨_, .get 4, exec_rxGetF32 s⟩
  case rxGetF64 => exact ⟨_, .get 8, exec_rxGetF64 s⟩
  case rxGetRaw => exact ⟨_, .rxGetRaw, exec_rxGetRaw s⟩
  case rxFrame => exact ⟨_, .rxFrame, exec_rxFrame s⟩

/-- What `exec` answers with: the result of a key schedule, or a plain completion. -/
theorem exec_cases {i : Instr} {s t : State} (h : exec i s = .next t) :
    t = ksInit s ∨ t = ksInitSalt s ∨ PlainCompletion s t := by
  by_cases h1 : i = .ksInit
  · subst h1; cases h; exact .inl rfl
  by_cases h2 : i = .ksInitSalt
  · subst h2; cases h; exact .inr (.inl rfl)
  · obtain ⟨t', ht', he⟩ := exec_plainCompletion s h1 h2
    cases he.symm.trans h
    exact .inr (.inr ht')

/-- The fields no command but a key schedule writes: P, S, KEY_VALID, the key and the salt (R22 to R28), the fields
of the HOST (R44), and the model's own. -/
structure CommandFrame (s t : State) : Prop where
  cipher : t.cipher = s.cipher
  keyValid : t.keyValid = s.keyValid
  key : t.key = s.key
  keyLen : t.keyLen = s.keyLen
  salt : t.salt = s.salt
  saltLen : t.saltLen = s.saltLen
  ie : t.ie = s.ie
  drop : t.drop = s.drop
  busErr : t.busErr = s.busErr
  cmdw : t.cmdw = s.cmdw
  rxLen : t.rxLen = s.rxLen
  agenda : t.agenda = s.agenda
  rdata : t.rdata = s.rdata
  draws : t.draws = s.draws

theorem acceptFrame_frame (p len : Nat) (s : State) : CommandFrame s (acceptFrame p len s) := by
  obtain ⟨-, h⟩ | ⟨-, -, h⟩ | ⟨-, -, -, h⟩ | ⟨-, -, -, h⟩ := acceptFrame_cases p len s <;>
    rw [h] <;> constructor <;> rfl

theorem PlainCompletion.frame {s t : State} (h : PlainCompletion s t) : CommandFrame s t := by
  cases h
  case nop => constructor <;> rfl
  case txClear => constructor <;> rfl
  case rxStart => constructor <;> rfl
  case cryptBlock f =>
    obtain ⟨-, h⟩ | ⟨-, h⟩ := cryptBlock_cases f s <;> rw [h] <;> constructor <;> rfl
  case cryptRange f b =>
    obtain ⟨-, h⟩ | ⟨-, -, h⟩ | ⟨-, -, -, -, h⟩ | ⟨-, -, -, -, h⟩ := cryptRange_cases f b s <;>
      rw [h] <;> constructor <;> rfl
  case ckWrite b =>
    obtain ⟨-, h⟩ | ⟨-, -, -, h⟩ | ⟨-, -, -, h⟩ := ckWrite_cases b s <;> rw [h] <;> constructor <;> rfl
  case ckVerify b =>
    obtain ⟨-, h⟩ | ⟨-, -, -, h⟩ | ⟨-, -, -, -, h⟩ | ⟨-, -, -, -, h⟩ := ckVerify_cases b s <;>
      rw [h] <;> constructor <;> rfl
  case append n v =>
    obtain ⟨-, h⟩ | ⟨-, h⟩ := appendValue_cases n v s <;> rw [h] <;> constructor <;> rfl
  case txPutRaw => obtain ⟨-, h⟩ | ⟨-, h⟩ := txPutRaw_cases s <;> rw [h] <;> constructor <;> rfl
  case txSeal => obtain ⟨-, -, h⟩ | ⟨-, h⟩ := txSeal_cases s <;> rw [h] <;> constructor <;> rfl
  case get n => obtain ⟨-, h⟩ | ⟨-, h⟩ := getValue_cases n s <;> rw [h] <;> constructor <;> rfl
  case rxGetRaw => obtain ⟨-, h⟩ | ⟨-, h⟩ := rxGetRaw_cases s <;> rw [h] <;> constructor <;> rfl
  case rxFrame =>
    obtain ⟨-, h⟩ | ⟨-, h⟩ := rxFrame_cases s <;> rw [h]
    · constructor <;> rfl
    · obtain ⟨⟩ := acceptFrame_frame s.rxPos.toNat (frameLength s) (s.setData (BitVec.ofNat 32 (frameLength s)) 0)
      constructor <;> assumption

theorem exec_frame {i : Instr} {s t : State} (h1 : i ≠ .ksInit) (h2 : i ≠ .ksInitSalt)
    (h : exec i s = .next t) : CommandFrame s t := by
  obtain ⟨t', ht', he⟩ := exec_plainCompletion s h1 h2
  cases he.symm.trans h
  exact ht'.frame

/-! ### Host accesses -/

theorem regionAt_register_iff {a : Nat} {r : Reg} :
    regionAt a = .register r ↔ a < 0x40 ∧ regAt a = r := by
  unfold regionAt
  repeat' split
  all_goals simp
  all_goals omega

/-- R66 and R67 the other way round: what is no bus error. -/
theorem busError_eq_false_iff {w : Width} {a : Nat} :
    busError w a = false ↔ (a < 0x40 → w = .w32) ∧ a % w.bytes = 0 := by
  simp only [busError, Bool.or_eq_false_iff, Bool.and_eq_false_imp, decide_eq_true_eq, decide_eq_false_iff_not,
    not_not]

theorem offset_of_ctrl {w : Width} {a : Nat} (hb : busError w a = false)
    (hr : regionAt a = .register .ctrl) : a = 0x004 := by
  obtain ⟨ha, hreg⟩ := regionAt_register_iff.mp hr
  obtain ⟨hw, hal⟩ := busError_eq_false_iff.mp hb
  rw [hw ha, Width.bytes] at hal
  have hq : a / 4 = 1 := by
    unfold regAt at hreg
    split at hreg <;> simp_all
  omega

/-- The fields no host access but a soft reset writes: P, S and KEY_VALID (R26), ERR (R33), the registers the HOST
cannot write (R39, R40, R42), and the turns to come. -/
structure HostFrame (s t : State) : Prop where
  cipher : t.cipher = s.cipher
  keyValid : t.keyValid = s.keyValid
  err : t.err = s.err
  txLen : t.txLen = s.txLen
  rxPos : t.rxPos = s.rxPos
  cksum : t.cksum = s.cksum
  agenda : t.agenda = s.agenda

theorem hostRead_frame (w : Width) (a : Nat) (s : State) : HostFrame s (hostRead w a s) := by
  obtain ⟨-, h⟩ | ⟨-, -, -, h⟩ | ⟨-, -, h⟩ := hostRead_cases w a s <;> rw [h] <;> constructor <;> rfl

theorem writeReg_frame {r : Reg} (d : Word) (s : State) (hr : r ≠ .ctrl) : HostFrame s (writeReg r d s) := by
  cases r
  case ctrl => exact absurd rfl hr
  all_goals constructor <;> rfl

theorem windowWrite_softReset_or_frame (w : Width) (a : Nat) (d : Word) (s : State) :
    (regionAt a = .register .ctrl ∧ d.getLsbD 1 = true ∧ windowWrite w a d s = softReset d s) ∨
    HostFrame s (windowWrite w a d s) := by
  obtain h | ⟨-, -, h⟩ | ⟨r, hr, -, h⟩ | ⟨i, -, h⟩ | ⟨i, -, h⟩ | ⟨-, h⟩ | ⟨-, h⟩ := windowWrite_cases w a d s
  case inl => exact .inl h
  case inr.inr.inl => exact .inr (h ▸ writeReg_frame d s hr)
  all_goals rw [h]; right; constructor <;> rfl

/-- Short of a soft reset (a write with bit 1 set to CTRL, 70_reset_and_hazards.md R292), a host access keeps the
fields of `HostFrame`. -/
theorem hostAccess_softReset_or_frame (x : HostAccess) (s : State) :
    (∃ w off d, x = .write w off d ∧ off.toNat = 0x004 ∧ d.getLsbD 1 = true ∧
      hostAccess x s = softReset d s) ∨
    HostFrame s (hostAccess x s) := by
  cases x with
  | read w off => exact .inr (hostRead_frame w off.toNat s)
  | write w off d =>
    obtain ⟨-, h⟩ | ⟨-, -, -, h⟩ | ⟨hb, -, h⟩ := hostWrite_cases w off.toNat d s
    · right; rw [hostAccess, h]; constructor <;> rfl
    · right; rw [hostAccess, h]; constructor <;> rfl
    · rw [hostAccess, h]
      exact (windowWrite_softReset_or_frame w off.toNat d s).imp
        (fun ⟨hr, hd, heq⟩ => ⟨w, off, d, rfl, offset_of_ctrl hb hr, hd, heq⟩) id

/-- Short of a write with bit 1 set to CTRL no host access resets the FCE. -/
theorem hostAccess_frame {x : HostAccess} {s : State}
    (hx : ∀ w off d, x = .write w off d → off.toNat = 0x004 → d.getLsbD 1 = false) :
    HostFrame s (hostAccess x s) := by
  obtain ⟨w, off, d, heq, hoff, hd, -⟩ | hf := hostAccess_softReset_or_frame x s
  · exact absurd ((hx w off d heq hoff).symm.trans hd) Bool.false_ne_true
  · exact hf

/-! ### Steps -/

theorem step_of_agenda_resetInput {s : State} {rest : List Turn} (h : s.agenda = .resetInput :: rest) :
    step s = .next (resetInput (s.setAgenda rest)) := by
  simpa [h] using step_cases s

/-- A property of the state that does not look at the turns to come, and that an illegal word, every command, every
host access and the reset input keep, is kept by every step. -/
theorem step_keeps {P : State → Prop} (agenda : ∀ s turns, P s → P (s.setAgenda turns))
    (illegal : ∀ s, P s → P (s.complete .illegalCommand))
    (command : ∀ i s t, P s → exec i s = .next t → P t)
    (host : ∀ x s, P s → P (hostAccess x s)) (reset : ∀ s, P s → P (resetInput s))
    {s t : State} (hs : P s) (h : step s = .next t) : P t := by
  have engine {s t : State} (hs : P s) (h : engineTurn s = .next t) : P t := by
    obtain ⟨-, he⟩ | ⟨i, -, -, he⟩ | ⟨e, -, -, he⟩ := engineTurn_cases s
    · cases he.symm.trans h; exact hs
    · exact command i s t hs (he.symm.trans h)
    · cases he.symm.trans h; exact illegal s hs
  obtain ⟨-, he⟩ | ⟨l, -, he⟩ | ⟨x, l, -, he⟩ | ⟨l, -, he⟩ := step_cases s
  · exact engine hs (he.symm.trans h)
  · exact engine (agenda s l hs) (he.symm.trans h)
  · cases he.symm.trans h; exact host x _ (agenda s l hs)
  · cases he.symm.trans h; exact reset _ (agenda s l hs)

end Sys2Proof.Machine

/-! PROOF. The invariant `State.inv`: TX_LEN, RX_POS and RX_LEN stay in 0..65536 and the buffer memory stays in its
canonical form (10_state.md R39 to R41, 20_memory.md R61). -/

namespace Sys2Proof.Machine

theorem State.inv_iff {s : State} : s.inv = true ↔
    s.mem.wf = true ∧ s.txLen.toNat ≤ 65536 ∧ s.rxPos.toNat ≤ 65536 ∧ s.rxLen.toNat ≤ 65536 := by
  simp [State.inv, and_assoc]

/-! ### Updates -/

@[simp] theorem State.inv_complete (s : State) (e : ErrCode) : (s.complete e).inv = s.inv := rfl
@[simp] theorem State.inv_setData (s : State) (lo hi : Word) : (s.setData lo hi).inv = s.inv := rfl

section
variable {s : State}

theorem State.inv_setMem {m : Memory} (h : s.inv = true) (hm : m.wf = true) : (s.setMem m).inv = true := by
  obtain ⟨-, htx, hpos, hlen⟩ := inv_iff.mp h
  exact inv_iff.mpr ⟨hm, htx, hpos, hlen⟩

theorem State.inv_setTxLen {n : Nat} (h : s.inv = true) (hn : n ≤ 65536) : (s.setTxLen n).inv = true := by
  obtain ⟨hwf, -, hpos, hlen⟩ := inv_iff.mp h
  exact inv_iff.mpr ⟨hwf, by simp; omega, hpos, hlen⟩

theorem State.inv_setRxPos {n : Nat} (h : s.inv = true) (hn : n ≤ 65536) : (s.setRxPos n).inv = true := by
  obtain ⟨hwf, htx, -, hlen⟩ := inv_iff.mp h
  exact inv_iff.mpr ⟨hwf, htx, by simp; omega, hlen⟩

/-! ### Commands -/

/-- Writing inside a buffer keeps the canonical form. -/
theorem inv_setMem_writeLE {a n : Nat} (v : Nat) (h : s.inv = true) (ha : 0x10000 ≤ a ∧ a + n ≤ 0x30000) :
    (s.setMem (s.mem.writeLE a n v)).inv = true :=
  State.inv_setMem h (Memory.wf_writeLE v (State.inv_iff.mp h).1 ha.1 ha.2)

theorem inv_appendValue (n v : Nat) (h : s.inv = true) : (appendValue n v s).inv = true := by
  obtain ⟨hfit, heq⟩ | ⟨-, heq⟩ := appendValue_cases n v s <;> rw [heq, State.inv_complete]
  · exact State.inv_setTxLen (inv_setMem_writeLE v h (bufAddr_range .tx hfit)) hfit
  · exact h

theorem inv_txPutRaw (h : s.inv = true) : (txPutRaw s).inv = true := by
  obtain ⟨hfit, heq⟩ | ⟨-, heq⟩ := txPutRaw_cases s <;> rw [heq, State.inv_complete]
  · exact State.inv_setTxLen h hfit
  · exact h

theorem inv_txSeal (h : s.inv = true) : (txSeal s).inv = true := by
  obtain ⟨-, -, heq⟩ | ⟨-, heq⟩ := txSeal_cases s <;> rw [heq, State.inv_complete]
  · exact inv_setMem_writeLE _ h (bufAddr_range .tx (by omega))
  · exact h

theorem inv_getValue (n : Nat) (h : s.inv = true) : (getValue n s).inv = true := by
  obtain ⟨-, -, -, hlen⟩ := State.inv_iff.mp h
  obtain ⟨hfit, heq⟩ | ⟨-, heq⟩ := getValue_cases n s <;> rw [heq, State.inv_complete]
  · rw [State.inv_setData]
    exact State.inv_setRxPos h (hfit.trans hlen)
  · exact h

theorem inv_rxGetRaw (h : s.inv = true) : (rxGetRaw s).inv = true := by
  obtain ⟨-, -, -, hlen⟩ := State.inv_iff.mp h
  obtain ⟨hfit, heq⟩ | ⟨-, heq⟩ := rxGetRaw_cases s <;> rw [heq, State.inv_complete]
  · exact State.inv_setRxPos h (hfit.trans hlen)
  · exact h

/-- The header at `p` was there (`hp`), so every place RX_FRAME moves RX_POS to lies in the stream. -/
theorem inv_acceptFrame {p : Nat} (len : Nat) (h : s.inv = true) (hp : p + 2 ≤ s.rxLen.toNat) :
    (acceptFrame p len s).inv = true := by
  obtain ⟨-, -, -, hlen⟩ := State.inv_iff.mp h
  obtain ⟨-, heq⟩ | ⟨-, -, heq⟩ | ⟨-, hfit, -, heq⟩ | ⟨-, hfit, -, heq⟩ := acceptFrame_cases p len s <;>
    rw [heq, State.inv_complete]
  · exact State.inv_setRxPos h (hp.trans hlen)
  · exact h
  · exact State.inv_setRxPos h (hfit.trans hlen)
  · exact State.inv_setRxPos h (hfit.trans hlen)

theorem inv_rxFrame (h : s.inv = true) : (rxFrame s).inv = true := by
  obtain ⟨-, heq⟩ | ⟨hp, heq⟩ := rxFrame_cases s <;> rw [heq]
  · exact h
  · exact inv_acceptFrame _ h hp

theorem inv_cryptBlock (f : Block → Block) (h : s.inv = true) : (cryptBlock f s).inv = true := by
  obtain ⟨-, heq⟩ | ⟨-, heq⟩ := cryptBlock_cases f s <;> rw [heq] <;> exact h

theorem inv_cryptRange (f : Block → Block) (b : BufSel) (h : s.inv = true) : (cryptRange f b s).inv = true := by
  obtain ⟨-, heq⟩ | ⟨-, -, heq⟩ | ⟨-, -, -, -, heq⟩ | ⟨-, -, -, hfit, heq⟩ := cryptRange_cases f b s <;>
    rw [heq, State.inv_complete]
  case inr.inr.inr =>
    obtain ⟨hlo, hhi⟩ := bufAddr_range b hfit
    exact State.inv_setMem h (Memory.wf_mapBlocks (State.inv_iff.mp h).1 hlo (by omega))
  all_goals exact h

theorem inv_ckWrite (b : BufSel) (h : s.inv = true) : (ckWrite b s).inv = true := by
  obtain ⟨-, heq⟩ | ⟨-, -, -, heq⟩ | ⟨hne, hmod, hfit, heq⟩ := ckWrite_cases b s <;> rw [heq, State.inv_complete]
  case inr.inr =>
    obtain ⟨hlo, hhi⟩ := bufAddr_range b hfit
    exact inv_setMem_writeLE _ h (by simp only [slotAddr, rangeAddr, rangeOff, rangeLen]; omega)
  all_goals exact h

theorem inv_ckVerify (b : BufSel) (h : s.inv = true) : (ckVerify b s).inv = true := by
  obtain ⟨-, heq⟩ | ⟨-, -, -, heq⟩ | ⟨-, -, -, -, heq⟩ | ⟨-, -, -, -, heq⟩ := ckVerify_cases b s <;>
    rw [heq] <;> exact h

theorem PlainCompletion.inv {t : State} (ht : PlainCompletion s t) (h : s.inv = true) : t.inv = true := by
  cases ht with
  | nop => exact h
  | cryptBlock f => exact inv_cryptBlock f h
  | cryptRange f b => exact inv_cryptRange f b h
  | ckWrite b => exact inv_ckWrite b h
  | ckVerify b => exact inv_ckVerify b h
  | txClear => rw [State.inv_complete]; exact State.inv_setTxLen h (by omega)
  | append n v => exact inv_appendValue n v h
  | txPutRaw => exact inv_txPutRaw h
  | txSeal => exact inv_txSeal h
  | rxStart => rw [State.inv_complete]; exact State.inv_setRxPos h (by omega)
  | get n => exact inv_getValue n h
  | rxGetRaw => exact inv_rxGetRaw h
  | rxFrame => exact inv_rxFrame h

theorem inv_ksInit (h : s.inv = true) : (ksInit s).inv = true := by
  obtain ⟨-, heq⟩ | ⟨-, -, heq⟩ := ksInit_cases s <;> rw [heq] <;> exact h

theorem inv_ksInitSalt (h : s.inv = true) : (ksInitSalt s).inv = true := by
  obtain ⟨-, heq⟩ | ⟨-, -, -, heq⟩ | ⟨-, -, -, heq⟩ := ksInitSalt_cases s <;> rw [heq] <;> exact h

theorem exec_keeps_inv {i : Instr} {t : State} (h : s.inv = true) (he : exec i s = .next t) : t.inv = true := by
  obtain rfl | rfl | ht := exec_cases he
  · exact inv_ksInit h
  · exact inv_ksInitSalt h
  · exact ht.inv h

/-! ### Resets and host accesses -/

theorem inv_powerOn (k : Nat) : (State.powerOn k).inv = true := rfl

theorem inv_softReset (d : Word) (h : s.inv = true) : (softReset d s).inv = true :=
  State.inv_iff.mpr ⟨wf_abortedMem (State.inv_iff.mp h).1, Nat.zero_le _, Nat.zero_le _, Nat.zero_le _⟩

theorem inv_hostRead (w : Width) (a : Nat) (h : s.inv = true) : (hostRead w a s).inv = true := by
  obtain ⟨-, heq⟩ | ⟨-, -, -, heq⟩ | ⟨-, -, heq⟩ := hostRead_cases w a s <;> rw [heq] <;> exact h

/-- RX_LEN is the one register of the invariant that the HOST writes, and the write is cut to 65536 (R41). -/
theorem inv_writeReg {r : Reg} (d : Word) (hr : r ≠ .ctrl) (h : s.inv = true) : (writeReg r d s).inv = true := by
  cases r
  case ctrl => exact absurd rfl hr
  case rxLen =>
    obtain ⟨hwf, htx, hpos, -⟩ := State.inv_iff.mp h
    exact State.inv_iff.mpr ⟨hwf, htx, hpos, by simp [writeReg]; omega⟩
  all_goals exact h

theorem inv_windowWrite {w : Width} {a : Nat} (d : Word) (hb : busError w a = false) (h : s.inv = true) :
    (windowWrite w a d s).inv = true := by
  obtain ⟨-, -, heq⟩ | ⟨-, -, heq⟩ | ⟨r, hr, -, heq⟩ | ⟨i, -, heq⟩ | ⟨i, -, heq⟩ | ⟨hbuf, heq⟩ | ⟨-, heq⟩ :=
    windowWrite_cases w a d s <;> rw [heq]
  · exact inv_softReset d h
  · exact h
  · exact inv_writeReg d hr h
  · exact h
  · exact h
  · exact inv_setMem_writeLE _ h (aligned_stays_in_buffers hb (regionAt_buffers.mp hbuf))
  · exact h

theorem hostAccess_keeps_inv (x : HostAccess) (h : s.inv = true) : (hostAccess x s).inv = true := by
  cases x with
  | read w off => exact inv_hostRead w off.toNat h
  | write w off d =>
    obtain ⟨-, heq⟩ | ⟨-, -, -, heq⟩ | ⟨hb, -, heq⟩ := hostWrite_cases w off.toNat d s <;> rw [hostAccess, heq]
    · exact h
    · exact h
    · exact inv_windowWrite d hb h

end

end Sys2Proof.Machine

namespace Sys2Proof.Proofs
open Sys2Proof.Machine

/-- Settles O11: each turn keeps the invariant (`step_keeps`). -/
theorem stepKeepsInvariant : Obligations.StepKeepsInvariant :=
  fun _ _ hs h => step_keeps (P := fun s => s.inv = true) (agenda := fun _ _ hs => hs) (illegal := fun _ hs => hs)
    (command := fun _ _ _ hs he => exec_keeps_inv hs he) (host := fun x _ hs => hostAccess_keeps_inv x hs)
    (reset := fun s _ => inv_powerOn s.draws) hs h

end Sys2Proof.Proofs

/-! PROOF. Who writes P, S and KEY_VALID (10_state.md R22 to R26, R46), and that P and S are what a key schedule built
while KEY_VALID is 1 (R25). -/

namespace Sys2Proof.Machine

section
variable {s t : State}

theorem length_keyOperand (h : s.keyLen.toNat ≤ 56) : (keyOperand s).length = s.keyLen.toNat := by
  simp [keyOperand, h]

theorem length_saltOperand (h : s.saltLen.toNat ≤ 56) : (saltOperand s).length = s.saltLen.toNat := by
  simp [saltOperand, h]

theorem keySound_of_keyValid_false (h : s.keyValid = false) : s.keySound :=
  fun hv => absurd (h.symm.trans hv) Bool.false_ne_true

theorem keySound_congr (hs : s.keySound) (hc : t.cipher = s.cipher) (hv : t.keyValid = s.keyValid) : t.keySound := by
  rw [State.keySound, hc, hv]
  exact hs

theorem keySound_ksInit : (ksInit s).keySound := by
  obtain ⟨-, heq⟩ | ⟨hlo, hhi, heq⟩ := ksInit_cases s <;> rw [heq]
  · exact keySound_of_keyValid_false rfl
  · have hkey := length_keyOperand hhi
    exact fun _ => ⟨keyOperand s, [], by omega, by simp; omega, by simp, rfl⟩

theorem keySound_ksInitSalt : (ksInitSalt s).keySound := by
  obtain ⟨-, heq⟩ | ⟨-, -, -, heq⟩ | ⟨hlo, hhi, hsalt, heq⟩ := ksInitSalt_cases s <;> rw [heq]
  · exact keySound_of_keyValid_false rfl
  · exact keySound_of_keyValid_false rfl
  · have hkey := length_keyOperand hhi
    have hsaltLen := length_saltOperand hsalt
    exact fun _ => ⟨keyOperand s, saltOperand s, by omega, by simp; omega, by simp; omega, rfl⟩

theorem exec_keeps_keySound {i : Instr} (hs : s.keySound) (h : exec i s = .next t) : t.keySound := by
  obtain rfl | rfl | ht := exec_cases h
  · exact keySound_ksInit
  · exact keySound_ksInitSalt
  · exact keySound_congr hs ht.frame.cipher ht.frame.keyValid

theorem hostAccess_keeps_keySound (x : HostAccess) (hs : s.keySound) : (hostAccess x s).keySound := by
  obtain ⟨w, off, d, -, -, -, heq⟩ | hf := hostAccess_softReset_or_frame x s
  · rw [heq]; exact keySound_of_keyValid_false rfl
  · exact keySound_congr hs hf.cipher hf.keyValid

theorem engineTurn_keeps_cipher
    (hks : s.busy = true → decodeWord s.cmdw ≠ .ok .ksInit ∧ decodeWord s.cmdw ≠ .ok .ksInitSalt)
    (h : engineTurn s = .next t) : t.cipher = s.cipher ∧ t.keyValid = s.keyValid := by
  obtain ⟨-, heq⟩ | ⟨i, hbusy, hdec, heq⟩ | ⟨e, -, -, heq⟩ := engineTurn_cases s
  · cases heq.symm.trans h; exact ⟨rfl, rfl⟩
  · obtain ⟨h1, h2⟩ := hks hbusy
    have hf := exec_frame (fun hi => h1 (hi ▸ hdec)) (fun hi => h2 (hi ▸ hdec)) (heq.symm.trans h)
    exact ⟨hf.cipher, hf.keyValid⟩
  · cases heq.symm.trans h; exact ⟨rfl, rfl⟩

end

end Sys2Proof.Machine

namespace Sys2Proof.Proofs
open Sys2Proof.Machine

/-- Settles O12: a key schedule builds what it marks valid, both resets clear KEY_VALID, and nothing else writes P, S
or KEY_VALID. -/
theorem stepKeepsKeySound : Obligations.StepKeepsKeySound :=
  fun _ _ hs h => step_keeps (P := State.keySound) (agenda := fun _ _ hs => hs) (illegal := fun _ hs => hs)
    (command := fun _ _ _ hs he => exec_keeps_keySound hs he) (host := fun x _ hs => hostAccess_keeps_keySound x hs)
    (reset := fun _ _ => keySound_of_keyValid_false rfl) hs h

/-- Settles O10: by the frames of commands and host accesses (`exec_frame`, `hostAccess_frame`), turn by turn. -/
theorem onlyKeySchedulesWriteCipher : Obligations.OnlyKeySchedulesWriteCipher := by
  refine ⟨fun i s t h1 h2 h => ?command, fun x s hx => ?host, fun s t rest hr h => ?reset,
    fun s t h hreset hhost hks => ?step⟩
  case command =>
    have hf := exec_frame h1 h2 h
    exact ⟨hf.cipher, hf.keyValid⟩
  case host =>
    have hf := hostAccess_frame (s := s) hx
    exact ⟨hf.cipher, hf.keyValid⟩
  case reset => cases (step_of_agenda_resetInput hr).symm.trans h; rfl
  case step =>
    obtain ⟨-, heq⟩ | ⟨l, -, heq⟩ | ⟨x, l, hl, heq⟩ | ⟨l, hl, -⟩ := step_cases s
    · exact engineTurn_keeps_cipher hks (heq.symm.trans h)
    · exact engineTurn_keeps_cipher (s := s.setAgenda l) hks (heq.symm.trans h)
    · cases heq.symm.trans h
      have hf := hostAccess_frame (s := s.setAgenda l) fun w off d hx => hhost w off d l (hx ▸ hl)
      exact ⟨hf.cipher, hf.keyValid⟩
    · exact absurd hl (hreset l)

/-- Settles O13: no byte is listed, every cursor is 0, and KEY_VALID is 0. -/
theorem resetMeetsInvariants : Obligations.ResetMeetsInvariants :=
  ⟨inv_powerOn 0, keySound_of_keyValid_false rfl⟩

end Sys2Proof.Proofs

/-! PROOF. A host access tells nothing of P, S, KEY and SALT (10_state.md R26 to R28, 20_memory.md R62): with those four
replaced it answers the same and leaves the same of everything else. -/

namespace Sys2Proof.Machine

/-- The state with other values of P and S, KEY and SALT. -/
def State.withSecrets (s : State) (c : CipherState) (k salt : Vector Byte 56) : State :=
  { s with cipher := c, key := k, salt := salt }

/-- `s2` is `s1` but for P, S, KEY and SALT. -/
def SameButSecrets (s1 s2 : State) : Prop := ∃ c k salt, s2 = s1.withSecrets c k salt

section
variable (s : State) (c : CipherState) (k salt : Vector Byte 56)

@[simp] theorem State.withSecrets_busy : (s.withSecrets c k salt).busy = s.busy := rfl
@[simp] theorem State.withSecrets_draws : (s.withSecrets c k salt).draws = s.draws := rfl

theorem readReg_withSecrets (r : Reg) : readReg r (s.withSecrets c k salt) = readReg r s := by
  cases r <;> rfl

theorem windowRead_withSecrets (w : Width) (a : Nat) :
    windowRead w a (s.withSecrets c k salt) = windowRead w a s := by
  unfold windowRead
  split
  · exact readReg_withSecrets s c k salt _
  all_goals rfl

theorem abortedBytes_withSecrets : abortedBytes (s.withSecrets c k salt) = abortedBytes s := by
  unfold abortedBytes
  rw [show runningCommand (s.withSecrets c k salt) = runningCommand s from rfl]
  split
  · rename_i i _
    cases i <;> rfl
  · rfl

theorem abortedMem_withSecrets : abortedMem (s.withSecrets c k salt) = abortedMem s := by
  rw [abortedMem, abortedBytes_withSecrets]
  rfl

theorem softReset_withSecrets (d : Word) : softReset d (s.withSecrets c k salt) = softReset d s := by
  rw [softReset, abortedMem_withSecrets]
  rfl

end

section
variable {s1 s2 : State}

theorem sameButSecrets_hostRead (w : Width) (a : Nat) (h : SameButSecrets s1 s2) :
    SameButSecrets (hostRead w a s1) (hostRead w a s2) := by
  obtain ⟨c, k, salt, rfl⟩ := h
  simp only [hostRead, State.withSecrets_busy, State.withSecrets_draws, windowRead_withSecrets]
  split_ifs <;> exact ⟨c, k, salt, rfl⟩

theorem sameButSecrets_writeReg (r : Reg) (d : Word) (h : SameButSecrets s1 s2) :
    SameButSecrets (writeReg r d s1) (writeReg r d s2) := by
  obtain ⟨c, k, salt, rfl⟩ := h
  cases r
  case ctrl =>
    simp only [writeReg, writeCtrl, softReset_withSecrets]
    split
    · exact ⟨(softReset d s1).cipher, (softReset d s1).key, (softReset d s1).salt, rfl⟩
    · exact ⟨c, k, salt, rfl⟩
  all_goals exact ⟨c, k, salt, rfl⟩

theorem sameButSecrets_windowWrite (w : Width) (a : Nat) (d : Word) (h : SameButSecrets s1 s2) :
    SameButSecrets (windowWrite w a d s1) (windowWrite w a d s2) := by
  unfold windowWrite
  split
  · exact sameButSecrets_writeReg _ d h
  all_goals obtain ⟨c, k, salt, rfl⟩ := h
  · exact ⟨c, _, salt, rfl⟩
  · exact ⟨c, k, _, rfl⟩
  · exact ⟨c, k, salt, rfl⟩
  · exact ⟨c, k, salt, rfl⟩

theorem sameButSecrets_hostWrite (w : Width) (a : Nat) (d : Word) (h : SameButSecrets s1 s2) :
    SameButSecrets (hostWrite w a d s1) (hostWrite w a d s2) := by
  have hw := sameButSecrets_windowWrite w a d h
  obtain ⟨c, k, salt, rfl⟩ := h
  rw [hostWrite, hostWrite, State.withSecrets_busy]
  split_ifs
  · exact ⟨c, k, salt, rfl⟩
  · exact ⟨c, k, salt, rfl⟩
  · exact hw

theorem sameButSecrets_hostAccess (x : HostAccess) (h : SameButSecrets s1 s2) :
    SameButSecrets (hostAccess x s1) (hostAccess x s2) := by
  cases x with
  | read w off => exact sameButSecrets_hostRead w off.toNat h
  | write w off d => exact sameButSecrets_hostWrite w off.toNat d h

end

end Sys2Proof.Machine

namespace Sys2Proof.Proofs
open Sys2Proof.Machine

/-- Settles O26: a host access keeps that two states are the same but for P, S, KEY and SALT. -/
theorem hostReadsNoSecrets : Obligations.HostReadsNoSecrets := by
  intro x s1 s2 t1 t2 hs ht1 ht2
  have hsame : SameButSecrets s1 s2 := ⟨s2.cipher, s2.key, s2.salt, hs⟩
  obtain ⟨c, k, salt, heq⟩ := sameButSecrets_hostAccess x hsame
  rw [← ht1, ← ht2] at heq
  rw [heq]
  exact ⟨rfl, rfl⟩

end Sys2Proof.Proofs

/-! PROOF. The registers as the host sees them (10_state.md R30 to R42): an access at a register's offset is a read or
a write of that register, and a reserved offset reads 0 and ignores writes (20_memory.md R63). -/

namespace Sys2Proof.Machine

/-! ### STATUS, CTRL and IRQ -/

section
variable (s : State)

/-- The flag bits of STATUS (R33). -/
theorem statusWord_flags : s.statusWord.getLsbD 0 = s.busy ∧ s.statusWord.getLsbD 1 = s.keyValid ∧
    s.statusWord.getLsbD 2 = s.done ∧ s.statusWord.getLsbD 3 = s.drop ∧ s.statusWord.getLsbD 4 = s.busErr := by
  simp only [State.statusWord, BitVec.getLsbD_append, BitVec.getLsbD_ofBool]
  simp

/-- The bits of STATUS from bit 5 on: three reserved ones and then ERR (R33). -/
theorem statusWord_getLsbD_high (i : Nat) :
    s.statusWord.getLsbD (5 + i) = (decide (3 ≤ i) && s.err.code.getLsbD (i - 3)) := by
  simp only [State.statusWord, BitVec.getLsbD_append, Nat.add_comm 5 i]
  by_cases h3 : i < 3
  · simp [h3]
  · by_cases h8 : i - 3 < 8
    · simp [h3, h8]; omega
    · simp [h3, h8, Nat.not_lt.mp h8]

theorem statusWord_reserved_low : s.statusWord.extractLsb' 5 3 = 0 := by
  ext i hi
  rw [BitVec.getElem_extractLsb', statusWord_getLsbD_high]
  simp [hi]

theorem statusWord_err : s.statusWord.extractLsb' 8 8 = s.err.code := by
  ext i hi
  rw [BitVec.getElem_extractLsb', show 8 + i = 5 + (3 + i) by omega, statusWord_getLsbD_high]
  simp [hi]

theorem statusWord_reserved_high : s.statusWord.extractLsb' 16 16 = 0 := by
  ext i hi
  rw [BitVec.getElem_extractLsb', show 16 + i = 5 + (11 + i) by omega, statusWord_getLsbD_high]
  simp [show 8 ≤ 11 + i - 3 by omega]

theorem statusWord_powerOn (k : Nat) : (State.powerOn k).statusWord = 0 := by
  simp [State.statusWord, State.powerOn, ErrCode.code]

theorem ctrlWord_eq : s.ctrlWord = if s.ie then 1 else 0 := by
  unfold State.ctrlWord
  cases s.ie <;> rfl

theorem ctrlWord_ie : s.ctrlWord.getLsbD 0 = s.ie := by
  rw [ctrlWord_eq]
  cases s.ie <;> rfl

theorem irq_eq : s.irq = (s.statusWord.getLsbD 2 && s.ctrlWord.getLsbD 0) := by
  obtain ⟨-, -, hdone, -, -⟩ := statusWord_flags s
  rw [hdone, ctrlWord_ie, State.irq]

end

/-! ### Accesses to a register -/

theorem regionAt_offset (r : Reg) : regionAt r.offset.toNat = .register r := by
  cases r <;> rfl

theorem busError_offset (r : Reg) : busError .w32 r.offset.toNat = false := by
  cases r <;> rfl

section
variable {s : State} {w : Width} {a : Nat}

/-- A read that is no bus error returns what is there, of an idle FCE and of a place R76 names. -/
theorem hostRead_defined (hb : busError w a = false) (h : s.busy = false ∨ steadyInBusy (regionAt a) = true) :
    hostRead w a s = s.setRdata (windowRead w a s) := by
  obtain h | h := h <;> simp [hostRead, hb, h]

/-- A write that is no bus error and not dropped takes place. -/
theorem hostWrite_performed (d : Word) (hb : busError w a = false)
    (h : s.busy = false ∨ writableInBusy (regionAt a) = true) : hostWrite w a d s = windowWrite w a d s := by
  obtain h | h := h <;> simp [hostWrite, hb, h]

theorem windowRead_register {r : Reg} (hr : regionAt a = .register r) : windowRead w a s = readReg r s := by
  simp [windowRead, hr]

theorem windowWrite_register {r : Reg} (d : Word) (hr : regionAt a = .register r) :
    windowWrite w a d s = writeReg r d s := by
  simp [windowWrite, hr]

theorem hostAccess_read_register (r : Reg) (h : s.busy = false) :
    hostAccess (.read .w32 r.offset) s = { s with rdata := readReg r s } := by
  rw [hostAccess, hostRead_defined (busError_offset r) (.inl h), windowRead_register (regionAt_offset r)]
  rfl

theorem hostAccess_write_register (r : Reg) (d : Word) (h : s.busy = false) :
    hostAccess (.write .w32 r.offset d) s = writeReg r d s := by
  rw [hostAccess, hostWrite_performed d (busError_offset r) (.inl h), windowWrite_register d (regionAt_offset r)]

/-- Of the registers only CMD takes the FCE out of idleness (44_control.md R241). -/
theorem writeReg_busy {r : Reg} (d : Word) (hr : r ≠ .cmd) (h : s.busy = false) : (writeReg r d s).busy = false := by
  cases r
  case cmd => exact absurd rfl hr
  case ctrl =>
    rw [writeReg, writeCtrl]
    split
    · rfl
    · exact h
  all_goals exact h

theorem hostAccess_readBack {r : Reg} (d : Word) (hr : r ≠ .cmd) (h : s.busy = false) :
    (hostAccess (.read .w32 r.offset) (hostAccess (.write .w32 r.offset d) s)).rdata =
      readReg r (writeReg r d s) := by
  rw [hostAccess_write_register r d h, hostAccess_read_register r (writeReg_busy d hr h)]

theorem writeCtrl_ie (d : Word) : (writeCtrl d s).ie = d.getLsbD 0 := by
  unfold writeCtrl
  split <;> rfl

/-- CTRL reads back bit 0 of what was written, a soft reset included (R32). -/
theorem readReg_writeReg_ctrl (d : Word) : readReg .ctrl (writeReg .ctrl d s) = d &&& 1#32 := by
  rw [readReg, ctrlWord_eq, writeReg, writeCtrl_ie, BitVec.and_one_eq_setWidth_ofBool_getLsbD]
  cases d.getLsbD 0 <;> rfl

/-- The low `n` bits of a word, zero-extended. -/
theorem setWidth_setWidth_eq_and (d : Word) (n : Nat) :
    (d.setWidth n).setWidth 32 = d &&& BitVec.ofNat 32 (2 ^ n - 1) := by
  refine BitVec.eq_of_getLsbD_eq fun i hi => ?_
  rw [BitVec.getLsbD_and, BitVec.getLsbD_ofNat, Nat.testBit_two_pow_sub_one]
  simp [hi, Bool.and_comm]

/-! ### Reserved offsets -/

/-- Where an aligned access is no bus error and finds nothing (20_memory.md R60, R63; R30). -/
theorem reserved_of_offset (hal : a % w.bytes = 0)
    (h : (w = .w32 ∧ 0x38 ≤ a ∧ a < 0x40) ∨ (0x78 ≤ a ∧ a < 0x80) ∨ (0xB8 ≤ a ∧ a < 0x10000) ∨ 0x30000 ≤ a) :
    busError w a = false ∧ (regionAt a = .register .reserved ∨ regionAt a = .reserved) := by
  obtain ⟨hw, hlo, hhi⟩ | h := h
  · refine ⟨busError_eq_false_iff.mpr ⟨fun _ => hw, hal⟩, .inl (regionAt_register_iff.mpr ⟨hhi, ?_⟩)⟩
    unfold regAt
    split <;> simp <;> omega
  · refine ⟨busError_eq_false_iff.mpr ⟨fun _ => by omega, hal⟩, .inr ?_⟩
    unfold regionAt
    repeat' split
    all_goals simp
    all_goals omega

theorem hostRead_reserved (hb : busError w a = false)
    (hr : regionAt a = .register .reserved ∨ regionAt a = .reserved) : hostRead w a s = { s with rdata := 0 } := by
  have hsteady : steadyInBusy (regionAt a) = true := by
    obtain hr | hr := hr <;> rw [hr] <;> rfl
  have hzero : windowRead w a s = 0 := by
    obtain hr | hr := hr <;> simp [windowRead, hr, readReg]
  rw [hostRead_defined hb (.inr hsteady), hzero]
  rfl

theorem hostWrite_reserved (d : Word) (hb : busError w a = false) (h : s.busy = false)
    (hr : regionAt a = .register .reserved ∨ regionAt a = .reserved) : hostWrite w a d s = s := by
  rw [hostWrite_performed d hb (.inl h)]
  obtain hr | hr := hr <;> simp [windowWrite, hr, writeReg]

end

end Sys2Proof.Machine

namespace Sys2Proof.Proofs
open Sys2Proof.Machine

/-- Settles O23: each clause is a write, a read-back or a read of one register, or an access to a reserved offset. -/
theorem registerWrites : Obligations.RegisterWrites := by
  intro s d hIdle
  refine ⟨fun hd => ?ctrl, hostAccess_write_register .keyLen d hIdle, hostAccess_write_register .saltLen d hIdle,
    hostAccess_write_register .roff d hIdle, hostAccess_write_register .rlen d hIdle,
    hostAccess_write_register .dataLo d hIdle, hostAccess_write_register .dataHi d hIdle,
    ⟨_, hostAccess_write_register .rxLen d hIdle, rfl, ?rxLen⟩, fun off hoff => ?readOnly, fun r hr => ?readBack,
    fun r hr => ?read, fun w off hal hoff => ?reserved⟩
  case ctrl =>
    refine (hostAccess_write_register .ctrl d hIdle).trans ?_
    simp only [writeReg, writeCtrl, hd]
    rfl
  case rxLen => simp [writeReg]
  case readOnly =>
    simp only [List.mem_cons, List.not_mem_nil, or_false] at hoff
    obtain rfl | rfl | rfl | rfl := hoff
    · exact hostAccess_write_register .id d hIdle
    · exact hostAccess_write_register .txLen d hIdle
    · exact hostAccess_write_register .rxPos d hIdle
    · exact hostAccess_write_register .cksum d hIdle
  case readBack =>
    simp only [List.mem_cons, List.not_mem_nil, or_false] at hr
    obtain rfl | rfl | rfl | rfl | rfl | rfl | rfl := hr
    · exact (hostAccess_readBack (r := .ctrl) d (by decide) hIdle).trans (readReg_writeReg_ctrl d)
    · exact (hostAccess_readBack (r := .keyLen) d (by decide) hIdle).trans (setWidth_setWidth_eq_and d 8)
    · exact (hostAccess_readBack (r := .saltLen) d (by decide) hIdle).trans (setWidth_setWidth_eq_and d 8)
    · exact (hostAccess_readBack (r := .roff) d (by decide) hIdle).trans (setWidth_setWidth_eq_and d 16)
    · exact (hostAccess_readBack (r := .rlen) d (by decide) hIdle).trans (setWidth_setWidth_eq_and d 17)
    · exact (hostAccess_readBack (r := .dataLo) d (by decide) hIdle).trans BitVec.and_allOnes.symm
    · exact (hostAccess_readBack (r := .dataHi) d (by decide) hIdle).trans BitVec.and_allOnes.symm
  case read =>
    simp only [List.mem_cons, List.not_mem_nil, or_false] at hr
    obtain rfl | rfl | rfl | rfl | rfl | rfl | rfl | rfl | rfl | rfl | rfl | rfl | rfl | rfl := hr
    · exact hostAccess_read_register .id hIdle
    · exact ctrlWord_eq s ▸ hostAccess_read_register .ctrl hIdle
    · exact hostAccess_read_register .status hIdle
    · exact hostAccess_read_register .cmd hIdle
    · exact hostAccess_read_register .keyLen hIdle
    · exact hostAccess_read_register .saltLen hIdle
    · exact hostAccess_read_register .roff hIdle
    · exact hostAccess_read_register .rlen hIdle
    · exact hostAccess_read_register .dataLo hIdle
    · exact hostAccess_read_register .dataHi hIdle
    · exact hostAccess_read_register .txLen hIdle
    · exact hostAccess_read_register .rxPos hIdle
    · exact hostAccess_read_register .rxLen hIdle
    · exact hostAccess_read_register .cksum hIdle
  case reserved =>
    obtain ⟨hb, hreg⟩ := reserved_of_offset hal hoff
    exact ⟨hostRead_reserved hb hreg, hostWrite_reserved d hb hIdle hreg⟩

/-- Settles O14: the power-on column field by field, the void step of an idle FCE, and the turn of the reset input. -/
theorem powerOnReset : Obligations.PowerOnReset := by
  refine ⟨fun k s hs => ?registers, rfl, ?waits, fun s rest h => ?later⟩
  case registers =>
    subst hs
    exact ⟨rfl, rfl, rfl, rfl, rfl, rfl, rfl, rfl, statusWord_powerOn k, ctrlWord_eq _, rfl, rfl, rfl,
      rfl, rfl, rfl, rfl, rfl, rfl, rfl, rfl, rfl, rfl, rfl⟩
  case waits => exact (step_of_agenda_nil rfl).trans (engineTurn_idle rfl)
  case later => exact step_of_agenda_resetInput h

/-- Settles O24: the fields of STATUS one by one, and a write to STATUS, which takes place in the BUSY window too. -/
theorem statusRegister : Obligations.StatusRegister := by
  intro s d
  obtain ⟨hbusy, hkeyValid, hdone, hdrop, hbusErr⟩ := statusWord_flags s
  refine ⟨hbusy, hkeyValid, hdone, hdrop, hbusErr,
    statusWord_reserved_low s, statusWord_err s, statusWord_reserved_high s, ?_⟩
  exact (hostWrite_performed d (busError_offset .status) (.inr rfl)).trans
    (windowWrite_register d (regionAt_offset .status))

/-- Settles O25: IRQ is that function of STATUS and CTRL in every state, so after every step. -/
theorem irqLine : Obligations.IrqLine := fun _ t _ => irq_eq t

end Sys2Proof.Proofs

/-! PROOF. The host port by offset (20_memory.md R60 to R76): which accesses are bus errors, which writes reach the FCE
and which reads are defined in the BUSY window, and the bytes an access to a buffer or to KEY or SALT moves. -/

namespace Sys2Proof.Machine

/-! ### Bytes of a word -/

/-- Byte `k` of a word, by division and by bits. -/
theorem byte_eq_extractLsb' (d : Word) (k : Nat) : BitVec.ofNat 8 (d.toNat / 256 ^ k) = d.extractLsb' (8 * k) 8 := by
  apply BitVec.eq_of_toNat_eq
  rw [BitVec.toNat_ofNat, BitVec.extractLsb'_toNat, Nat.shiftRight_eq_div_pow, Nat.pow_mul]

/-- At most four bytes fit a word. -/
theorem toNat_ofNat_readLE (m : Memory) (a : Nat) {n : Nat} (hn : n ≤ 4) :
    (BitVec.ofNat 32 (m.readLE a n)).toNat = m.readLE a n := by
  rw [BitVec.toNat_ofNat]
  exact Nat.mod_eq_of_lt ((m.readLE_lt a n).trans_le (Nat.pow_le_pow_right (by decide) hn))

/-- Byte `k` of what a read of at most four bytes returns, within the bytes read (R65). -/
theorem extractLsb'_readLE (m : Memory) (a : Nat) {n k : Nat} (hn : n ≤ 4) (hk : k < n) :
    (BitVec.ofNat 32 (m.readLE a n)).extractLsb' (8 * k) 8 = m.read (a + k) := by
  rw [← byte_eq_extractLsb', toNat_ofNat_readLE m a hn]
  apply BitVec.eq_of_toNat_eq
  rw [BitVec.toNat_ofNat]
  exact m.readLE_byte a hk

/-- The bytes above those read are zero (R65). -/
theorem extractLsb'_readLE_above (m : Memory) (a : Nat) {n k : Nat} (hn : n ≤ 4) (hk : n ≤ k) :
    (BitVec.ofNat 32 (m.readLE a n)).extractLsb' (8 * k) 8 = 0 := by
  have hlt : m.readLE a n < 256 ^ k := (m.readLE_lt a n).trans_le (Nat.pow_le_pow_right (by decide) hk)
  rw [← byte_eq_extractLsb', toNat_ofNat_readLE m a hn, Nat.div_eq_of_lt hlt]
  rfl

/-- A write to KEY or SALT, byte by byte (R62, R65). -/
theorem get_putWindow (i n v : Nat) (k : Vector Byte 56) (j : Fin 56) :
    (putWindow i n v k).get j =
      if i ≤ j.val ∧ j.val < i + n then BitVec.ofNat 8 (v / 256 ^ (j.val - i)) else k.get j := by
  induction n generalizing i v k with
  | zero => rw [putWindow, if_neg (by omega)]
  | succ n ih =>
    rw [putWindow, ih]
    by_cases hlater : i + 1 ≤ j.val ∧ j.val < i + 1 + n
    · rw [if_pos hlater, if_pos (by omega), Nat.div_div_eq_div_mul, ← Nat.pow_succ', Nat.succ_eq_add_one,
        show j.val - (i + 1) + 1 = j.val - i by omega]
    · rw [if_neg hlater]
      by_cases hfirst : i = j.val
      · subst hfirst
        simp [Vector.get_eq_getElem]
      · rw [if_neg (by omega)]
        simp [Vector.get_eq_getElem, hfirst]

section
variable {s : State} {w : Width} {a : Nat}

theorem Width.bytes_le_four (w : Width) : w.bytes ≤ 4 := by
  cases w <;> decide

/-! ### The places of the window -/

/-- R66, R67 width by width. -/
theorem busError_iff : busError w a = true ↔
    (a < 0x40 ∧ w ≠ .w32) ∨ (w = .w16 ∧ a % 2 ≠ 0) ∨ (w = .w32 ∧ a % 4 ≠ 0) := by
  simp only [busError, Bool.or_eq_true, Bool.and_eq_true, decide_eq_true_eq]
  cases w <;> simp [Width.bytes, Nat.mod_one]

/-- An access to a register that is no bus error is at the register's own offset (R30, R66). -/
theorem offset_of_register {r : Reg} (hb : busError w a = false) (hr : regionAt a = .register r) (h : r ≠ .reserved) :
    a = r.offset.toNat := by
  obtain ⟨ha, rfl⟩ := regionAt_register_iff.mp hr
  obtain ⟨hw, hal⟩ := busError_eq_false_iff.mp hb
  rw [hw ha, Width.bytes] at hal
  have hword : a / 4 = (regAt a).offset.toNat / 4 ∧ (regAt a).offset.toNat % 4 = 0 := by
    unfold regAt at h ⊢
    split <;> simp_all [Reg.offset]
  omega

/-- Above the register region an aligned access is no bus error. -/
theorem busError_of_aligned (ha : 0x40 ≤ a) (hal : a % w.bytes = 0) : busError w a = false :=
  busError_eq_false_iff.mpr ⟨fun h => absurd h (by omega), hal⟩

/-- The windows start at multiples of every width, so that an index is aligned when its offset is (R60, R62). -/
theorem add_mod_bytes {b i : Nat} (hb : b % 4 = 0) (hal : i % w.bytes = 0) : (b + i) % w.bytes = 0 := by
  cases w <;> simp only [Width.bytes] at hal ⊢ <;> omega

/-- An aligned access at index `i` of a window of 56 bytes that starts at `b`: its offset, and that it is no bus
error. -/
theorem offset_in_window {b i : Nat} (hb : b % 4 = 0) (hlo : 0x40 ≤ b) (hhi : b + 56 ≤ 0x10000) (hi : i < 56)
    (hal : i % w.bytes = 0) : (BitVec.ofNat 18 (b + i)).toNat = b + i ∧ busError w (b + i) = false :=
  ⟨by rw [BitVec.toNat_ofNat]; omega, busError_of_aligned (by omega) (add_mod_bytes hb hal)⟩

theorem regionAt_key {i : Nat} (hi : i < 56) : regionAt (0x40 + i) = .keyWindow i := by
  rw [regionAt, if_neg (by omega), if_pos (by omega), Nat.add_sub_cancel_left]

theorem regionAt_salt {i : Nat} (hi : i < 56) : regionAt (0x80 + i) = .saltWindow i := by
  rw [regionAt, if_neg (by omega), if_neg (by omega), if_neg (by omega), if_pos (by omega), Nat.add_sub_cancel_left]

theorem regionAt_buffers_iff : regionAt a = .buffers ↔ 0x10000 ≤ a ∧ a < 0x30000 := by
  simp [regionAt_buffers, inBuffers]

/-! ### Reads -/

/-- R62, R63, R76: from 0x038 on, everything but the buffers reads 0, in the BUSY window too. -/
theorem hostRead_zero (hb : busError w a = false) (ha : 0x38 ≤ a) (hbuf : regionAt a ≠ .buffers) :
    hostRead w a s = { s with rdata := 0 } := by
  cases hr : regionAt a with
  | register r =>
    have hreg : r = .reserved := by
      by_contra h
      have hoff := offset_of_register hb hr h
      cases r <;> simp [Reg.offset] at hoff h <;> omega
    exact hostRead_reserved hb (.inl (hreg ▸ hr))
  | keyWindow i =>
    rw [hostRead_defined hb (.inr (hr ▸ rfl)), windowRead, hr]
    rfl
  | saltWindow i =>
    rw [hostRead_defined hb (.inr (hr ▸ rfl)), windowRead, hr]
    rfl
  | buffers => exact absurd hr hbuf
  | reserved => exact hostRead_reserved hb (.inr hr)

theorem hostAccess_read_steadyRegister {r : Reg} (h : steadyInBusy (.register r) = true) :
    hostAccess (.read .w32 r.offset) s = { s with rdata := readReg r s } := by
  have hr := regionAt_offset r
  rw [hostAccess, hostRead_defined (busError_offset r) (.inr (hr ▸ h)), windowRead_register hr]
  rfl

/-- The places whose reads are open in the BUSY window (R76). -/
theorem steadyInBusy_eq_false (h : (0x10 ≤ a ∧ a < 0x38) ∨ (0x10000 ≤ a ∧ a < 0x30000)) :
    steadyInBusy (regionAt a) = false := by
  obtain ⟨hlo, hhi⟩ | hbuf := h
  · rw [regionAt_register_iff.mpr ⟨by omega, rfl⟩]
    obtain ⟨h4, h14⟩ : 4 ≤ a / 4 ∧ a / 4 < 14 := by omega
    unfold regAt
    interval_cases a / 4 <;> rfl
  · rw [regionAt_buffers_iff.mpr hbuf]
    rfl

/-! ### Accesses to the buffers and to KEY and SALT -/

theorem hostWrite_buffers (d : Word) (hb : busError w a = false) (hIdle : s.busy = false)
    (hr : regionAt a = .buffers) : hostWrite w a d s = s.setMem (s.mem.writeLE a w.bytes d.toNat) := by
  rw [hostWrite_performed d hb (.inl hIdle), windowWrite, hr]

theorem hostRead_buffers (hb : busError w a = false) (hIdle : s.busy = false) (hr : regionAt a = .buffers) :
    hostRead w a s = s.setRdata (BitVec.ofNat 32 (s.mem.readLE a w.bytes)) := by
  rw [hostRead_defined hb (.inl hIdle), windowRead, hr]

theorem windowWrite_key {i : Nat} (d : Word) (hi : i < 56) :
    windowWrite w (0x40 + i) d s = { s with key := putWindow i w.bytes d.toNat s.key } := by
  rw [windowWrite, regionAt_key hi]

theorem windowWrite_salt {i : Nat} (d : Word) (hi : i < 56) :
    windowWrite w (0x80 + i) d s = { s with salt := putWindow i w.bytes d.toNat s.salt } := by
  rw [windowWrite, regionAt_salt hi]

section
variable {b i : Nat} (hb : b % 4 = 0) (hlo : 0x40 ≤ b) (hhi : b + 56 ≤ 0x10000) (hi : i < 56)
  (hal : i % w.bytes = 0)
include hb hlo hhi hi hal

theorem hostAccess_write_window (d : Word) (hIdle : s.busy = false) :
    hostAccess (.write w (BitVec.ofNat 18 (b + i)) d) s = windowWrite w (b + i) d s := by
  obtain ⟨hoff, hok⟩ := offset_in_window hb hlo hhi hi hal
  rw [hostAccess, hoff, hostWrite_performed d hok (.inl hIdle)]

/-- R62: KEY and SALT read 0. -/
theorem hostAccess_read_window : hostAccess (.read w (BitVec.ofNat 18 (b + i))) s = { s with rdata := 0 } := by
  obtain ⟨hoff, hok⟩ := offset_in_window hb hlo hhi hi hal
  rw [hostAccess, hoff]
  exact hostRead_zero hok (by omega) (by rw [Ne, regionAt_buffers_iff]; omega)

end

/-! ### Writes in the BUSY window -/

/-- R74: the two registers a write reaches in the BUSY window. -/
theorem writableInBusy_iff {ρ : Region} :
    writableInBusy ρ = true ↔ ρ = .register .ctrl ∨ ρ = .register .status := by
  unfold writableInBusy
  split <;> simp

/-- R74: what a write in the BUSY window does. -/
theorem hostWrite_busy_cases (d : Word) (hBusy : s.busy = true) (hb : busError w a = false) :
    (a ≠ 0x004 ∧ a ≠ 0x008 ∧ hostWrite w a d s = s.setDrop) ∨
    (a = 0x004 ∧ hostWrite w a d s = writeCtrl d s) ∨
    (a = 0x008 ∧ hostWrite w a d s = s.clearFlags d) := by
  by_cases hw : writableInBusy (regionAt a) = true
  · have hperf := hostWrite_performed (s := s) d hb (.inr hw)
    obtain hr | hr := writableInBusy_iff.mp hw <;> rw [hperf, windowWrite_register d hr]
    · exact .inr (.inl ⟨offset_of_register hb hr (by decide), rfl⟩)
    · exact .inr (.inr ⟨offset_of_register hb hr (by decide), rfl⟩)
  · refine .inl ⟨?_, ?_, by simp [hostWrite, hb, hBusy, hw]⟩ <;> rintro rfl <;> exact hw rfl

theorem writeCtrl_setIe {d : Word} (hd : d.getLsbD 1 = false) : writeCtrl d s = s.setIe d := by
  rw [writeCtrl, hd]; rfl

theorem writeCtrl_softReset {d : Word} (hd : d.getLsbD 1 = true) : writeCtrl d s = softReset d s := by
  rw [writeCtrl, if_pos hd]

/-! ### The BUSY window as a whole -/

/-- `t` is `s` but for what the HOST can change while BUSY = 1, short of a soft reset (R74, R76). -/
def SameButHostFlags (s t : State) : Prop :=
  t = { s with ie := t.ie, done := t.done, drop := t.drop, busErr := t.busErr, rdata := t.rdata, draws := t.draws }

theorem SameButHostFlags.refl (s : State) : SameButHostFlags s s := rfl

theorem SameButHostFlags.trans {s t u : State} (h : SameButHostFlags s t) (h' : SameButHostFlags t u) :
    SameButHostFlags s u := by
  unfold SameButHostFlags at h
  rw [h] at h'
  exact h'

theorem SameButHostFlags.busy_eq {s t : State} (h : SameButHostFlags s t) : t.busy = s.busy := by
  rw [h]

theorem sameButHostFlags_hostAccess {x : HostAccess} (hBusy : s.busy = true)
    (hx : ∀ w off d, x = .write w off d → off.toNat = 0x004 → d.getLsbD 1 = false) :
    SameButHostFlags s (hostAccess x s) := by
  cases x with
  | read w off =>
    obtain ⟨-, h⟩ | ⟨-, -, -, h⟩ | ⟨-, -, h⟩ := hostRead_cases w off.toNat s <;> rw [hostAccess, h] <;> rfl
  | write w off d =>
    rw [hostAccess]
    cases hb : busError w off.toNat with
    | true => rw [hostWrite, hb]; rfl
    | false =>
      obtain ⟨-, -, h⟩ | ⟨hoff, h⟩ | ⟨-, h⟩ := hostWrite_busy_cases d hBusy hb <;> rw [h]
      · rfl
      · rw [writeCtrl_setIe (hx w off d rfl hoff)]; rfl
      · rfl

theorem sameButHostFlags_foldl_hostAccess (xs : List HostAccess) (hBusy : s.busy = true)
    (hxs : ∀ x ∈ xs, ∀ w off d, x = .write w off d → off.toNat = 0x004 → d.getLsbD 1 = false) :
    SameButHostFlags s (xs.foldl (fun u x => hostAccess x u) s) := by
  induction xs generalizing s with
  | nil => exact .refl s
  | cons x xs ih =>
    rw [List.forall_mem_cons] at hxs
    obtain ⟨hx, hrest⟩ := hxs
    have hfirst := sameButHostFlags_hostAccess hBusy hx
    exact hfirst.trans (ih (hfirst.busy_eq.trans hBusy) hrest)

end

end Sys2Proof.Machine

namespace Sys2Proof.Proofs
open Sys2Proof.Machine

/-- Settles O18: the cases of a write in the BUSY window (`hostWrite_busy_cases`), one per clause. -/
theorem busyWindowDropsWrites : Obligations.BusyWindowDropsWrites := by
  intro s w off d hBusy hb
  refine ⟨fun hctrl hstatus => ?drop, fun hctrl hd => ?ie, fun hctrl hd => ?reset, fun hstatus => ?status⟩
  all_goals obtain ⟨h4, h8, h⟩ | ⟨h4, h⟩ | ⟨h8, h⟩ := hostWrite_busy_cases d hBusy hb
  case drop.inl => exact h
  case ie.inr.inl => exact h.trans (writeCtrl_setIe hd)
  case reset.inr.inl => rw [hostAccess, h, writeCtrl_softReset hd]; rfl
  case status.inr.inr => exact h
  all_goals omega

/-- Settles O19: the first clause's premise is `busError`; no other read writes BUSERR. -/
theorem busErrors : Obligations.BusErrors := by
  intro s w off d
  rw [← busError_iff, Bool.not_eq_true]
  refine ⟨fun hb => ⟨?read, ?write⟩, fun hb => ?other⟩
  case read => rw [hostAccess, hostRead, hb]; rfl
  case write => rw [hostAccess, hostWrite, hb]; rfl
  case other =>
    obtain ⟨hb', -⟩ | ⟨-, -, -, h⟩ | ⟨-, -, h⟩ := hostRead_cases w off.toNat s
    · exact absurd (hb.symm.trans hb') Bool.false_ne_true
    · rw [hostAccess, h]; rfl
    · rw [hostAccess, h]; rfl

/-- Settles O20: the places of R76 are steady, and a read of any other place is a draw. -/
theorem busyWindowReads : Obligations.BusyWindowReads := by
  refine fun s => ⟨hostAccess_read_steadyRegister (r := .id) rfl, hostAccess_read_steadyRegister (r := .ctrl) rfl,
    hostAccess_read_steadyRegister (r := .status) rfl, hostAccess_read_steadyRegister (r := .cmd) rfl,
    fun w off hBusy hb => ⟨fun hzero => ?zero, fun hdraw => ?draw⟩⟩
  case zero =>
    exact hostRead_zero hb (by omega) (by rw [Ne, regionAt_buffers_iff]; omega)
  case draw =>
    have h : hostRead w off.toNat s = (s.setRdata (busyValue w s.draws)).countDraw := by
      simp [hostRead, hb, hBusy, steadyInBusy_eq_false hdraw]
    rw [hostAccess, h]
    rfl

/-- Settles O21: the access is one little-endian write or read of the buffer memory. -/
theorem bufferWindowAccess : Obligations.BufferWindowAccess := by
  intro s w off d hIdle hal hlo hhi
  have hb : busError w off.toNat = false := busError_of_aligned (by omega) hal
  have hr : regionAt off.toNat = .buffers := regionAt_buffers_iff.mpr ⟨hlo, hhi⟩
  refine ⟨⟨_, hostWrite_buffers d hb hIdle hr, rfl, fun k hk => ?written, fun x hx => ?frame⟩,
    ⟨_, hostRead_buffers hb hIdle hr, rfl, fun k hk => ?read, fun k hk hk4 => ?zero⟩⟩
  case written => exact (s.mem.read_writeLE_inside _ _ hk).trans (byte_eq_extractLsb' d k)
  case frame => exact s.mem.read_writeLE_outside _ hx
  case read => exact extractLsb'_readLE s.mem off.toNat w.bytes_le_four hk
  case zero => exact extractLsb'_readLE_above s.mem off.toNat w.bytes_le_four hk

/-- Settles O22: a write is `putWindow`, byte by byte `get_putWindow`; a read is a place that reads 0. -/
theorem keyAndSaltWindows : Obligations.KeyAndSaltWindows := by
  refine ⟨fun s w i d hIdle hi hal => ⟨?key, ?salt⟩, fun s w i hi hal => ⟨?readKey, ?readSalt⟩⟩
  case key =>
    have h := hostAccess_write_window (b := 0x40) rfl (by decide) (by decide) hi hal d hIdle
    refine ⟨_, h.trans (windowWrite_key d hi), rfl, fun j => ?_⟩
    simp only [get_putWindow, byte_eq_extractLsb']
  case salt =>
    have h := hostAccess_write_window (b := 0x80) rfl (by decide) (by decide) hi hal d hIdle
    refine ⟨_, h.trans (windowWrite_salt d hi), rfl, fun j => ?_⟩
    simp only [get_putWindow, byte_eq_extractLsb']
  case readKey => exact hostAccess_read_window rfl (by decide) (by decide) hi hal
  case readSalt => exact hostAccess_read_window rfl (by decide) (by decide) hi hal

/-- Settles O27: each access keeps all but the HOST's flags, and so BUSY = 1 for the next one. -/
theorem operandsStableInBusyWindow : Obligations.OperandsStableInBusyWindow :=
  fun xs _ hBusy hxs => sameButHostFlags_foldl_hostAccess xs hBusy hxs

end Sys2Proof.Proofs

/-! PROOF. The decoder and the encoder are inverse to each other, and what they answer on the remaining words
(30_encoding.md R90 to R97): a word is the concatenation of its fields (`append_fields`); the decoder answers the one
command whose word it is (`decodeWord_eq_ok_iff`), and answers a command exactly on the legal words
(`exists_decodeWord_eq_ok_iff`). -/

namespace Sys2Proof

section
variable {w : Word} {i : Instr} {opc : Byte} {b : BufSel}

/-! ### A word and its fields -/

/-- R90: a word is RSV, then BSEL, then OPC. -/
theorem append_fields (w : Word) : wordRsv w ++ w.extractLsb' 8 1 ++ wordOpc w = w := by
  rw [wordRsv, wordOpc, BitVec.extractLsb'_append_extractLsb'_eq_extractLsb' (show 9 = 8 + 1 from rfl),
    BitVec.extractLsb'_append_extractLsb'_eq_extractLsb' (show 8 = 0 + 8 from rfl)]
  exact BitVec.extractLsb'_eq_self

theorem bselBit_bufSelOf (w : Word) : bselBit (bufSelOf (wordBsel w)) = w.extractLsb' 8 1 := by
  have hbit : bselBit (bufSelOf (wordBsel w)) = BitVec.ofBool (wordBsel w) := by cases wordBsel w <;> rfl
  rw [hbit]
  ext k hk
  simp [wordBsel, Nat.lt_one_iff.mp hk]

theorem packWord_fields (h : wordRsv w = 0) : packWord (wordOpc w) (bselBit (bufSelOf (wordBsel w))) = w := by
  rw [packWord, bselBit_bufSelOf, ← h, append_fields]

/-- 20_memory.md R65: the four little-endian bytes of a word make it up again. -/
theorem wordOfBytes_extractLsb' (w : Word) :
    wordOfBytes (w.extractLsb' 0 8) (w.extractLsb' 8 8) (w.extractLsb' 16 8) (w.extractLsb' 24 8) = w := by
  rw [wordOfBytes, BitVec.extractLsb'_append_extractLsb'_eq_extractLsb' (show 24 = 16 + 8 from rfl),
    BitVec.extractLsb'_append_extractLsb'_eq_extractLsb' (show 16 = 8 + 8 from rfl),
    BitVec.extractLsb'_append_extractLsb'_eq_extractLsb' (show 8 = 0 + 8 from rfl)]
  exact BitVec.extractLsb'_eq_self

/-! ### The two tables of the decoder -/

theorem encodeWord_of_rangeCommand (h : rangeCommand opc b = some i) : encodeWord i = packWord opc (bselBit b) := by
  unfold rangeCommand at h
  split_ifs at h with hopc hopc hopc hopc <;> cases h <;> rw [hopc] <;> rfl

theorem rangeCommand_isSome_iff : (rangeCommand opc b).isSome = true ↔ opc ∈ rangeOpcodes := by
  unfold rangeCommand
  split_ifs <;> simp_all [rangeOpcodes]

theorem encodeWord_of_plainCommand (h : plainCommand opc = some i) : encodeWord i = packWord opc 0 := by
  have hrows : ∀ row ∈ plainCommands, encodeWord row.2 = packWord row.1 0 := by decide
  obtain ⟨l₁, l₂, hmem, -⟩ := List.lookup_eq_some_iff.mp h
  exact hrows (opc, i) (hmem ▸ List.mem_append_cons_self)

/-- R93: an assigned operation code stands in one of the two tables. -/
theorem plainCommand_isSome_of_mem (h : opc ∈ assignedOpcodes) (hr : opc ∉ rangeOpcodes) :
    (plainCommand opc).isSome = true := by
  have htable : ∀ opc ∈ assignedOpcodes, opc ∉ rangeOpcodes → (plainCommand opc).isSome = true := by decide
  exact htable opc h hr

/-! ### What the decoder answers -/

/-- R96: the two branches of decode that answer a command. -/
theorem decodeWord_eq_ok_iff_table : decodeWord w = .ok i ↔
    wordRsv w = 0 ∧ (rangeCommand (wordOpc w) (bufSelOf (wordBsel w)) = some i ∨
      (rangeCommand (wordOpc w) (bufSelOf (wordBsel w)) = none ∧ wordBsel w = false ∧
        plainCommand (wordOpc w) = some i)) := by
  unfold decodeWord
  by_cases hrsv : wordRsv w = 0
  case neg =>
    rw [if_pos hrsv]
    simp only [hrsv, false_and, reduceCtorEq]
  case pos =>
    cases hrange : rangeCommand (wordOpc w) (bufSelOf (wordBsel w)) with
    | some j => simp [hrsv]
    | none =>
      cases wordBsel w with
      | true => simp [hrsv]
      | false => cases plainCommand (wordOpc w) <;> simp [hrsv]

theorem decodeWord_encodeWord (i : Instr) : decodeWord (encodeWord i) = .ok i := by
  cases i
  case encRange b | decRange b | ckWrite b | ckVerify b => cases b <;> rfl
  all_goals rfl

theorem encodeWord_of_decodeWord (h : decodeWord w = .ok i) : encodeWord i = w := by
  obtain ⟨hrsv, hrange | ⟨-, hbsel, hplain⟩⟩ := decodeWord_eq_ok_iff_table.mp h
  · rw [encodeWord_of_rangeCommand hrange, packWord_fields hrsv]
  · have hword := packWord_fields hrsv
    rw [hbsel] at hword
    exact (encodeWord_of_plainCommand hplain).trans hword

theorem decodeWord_eq_ok_iff : decodeWord w = .ok i ↔ w = encodeWord i :=
  ⟨fun h => (encodeWord_of_decodeWord h).symm, fun h => h ▸ decodeWord_encodeWord i⟩

theorem encodeWord_injective : Function.Injective encodeWord := fun i j h =>
  Except.ok.inj ((decodeWord_encodeWord i).symm.trans (h ▸ decodeWord_encodeWord j))

/-- R97: the decoder takes the four bytes of a word and leaves what follows them. -/
theorem decodeBytes_bytesOfWord_append (rest : List Byte) (h : decodeWord w = .ok i) :
    decodeBytes (bytesOfWord w ++ rest) = .ok (i, rest) := by
  simp [bytesOfWord, decodeBytes, wordOfBytes_extractLsb', h]

/-! ### Legal words -/

theorem legalWord_iff : legalWord w = true ↔
    wordRsv w = 0 ∧ wordOpc w ∈ assignedOpcodes ∧ (wordBsel w = true → wordOpc w ∈ rangeOpcodes) := by
  simp [legalWord, rsvZero, opcAssigned, bselAllowed, and_assoc, imp_iff_not_or]

open Laws.EncodedWordLegal in
/-- The laws about the word of each instruction, as one statement about all of them. -/
theorem encodedWordLegal (i : Instr) : Statement i := by
  cases i
  exacts [nop, ksInit, ksInitSalt, encBlk, decBlk, encRange _, decRange _, ckWrite _, ckVerify _,
    txClear, txPutU8, txPutU16, txPutU32, txPutU64, txPutF32, txPutF64, txPutRaw, txSeal,
    rxStart, rxGetU8, rxGetU16, rxGetU32, rxGetU64, rxGetF32, rxGetF64, rxGetRaw, rxFrame]

theorem legalWord_encodeWord (i : Instr) : legalWord (encodeWord i) = true := by
  obtain ⟨-, hlegal⟩ := encodedWordLegal i
  exact hlegal

/-- R94, R96: decode answers a command exactly when none of the three conditions of R94 holds. -/
theorem exists_decodeWord_eq_ok_iff : (∃ i, decodeWord w = .ok i) ↔ legalWord w = true := by
  refine ⟨fun ⟨i, h⟩ => encodeWord_of_decodeWord h ▸ legalWord_encodeWord i, fun h => ?_⟩
  obtain ⟨hrsv, hopc, hbsel⟩ := legalWord_iff.mp h
  by_cases hr : wordOpc w ∈ rangeOpcodes
  · obtain ⟨i, hi⟩ := Option.isSome_iff_exists.mp (rangeCommand_isSome_iff.mpr hr)
    exact ⟨i, decodeWord_eq_ok_iff_table.mpr ⟨hrsv, .inl hi⟩⟩
  · obtain ⟨i, hi⟩ := Option.isSome_iff_exists.mp (plainCommand_isSome_of_mem hopc hr)
    have hnone : rangeCommand (wordOpc w) (bufSelOf (wordBsel w)) = none :=
      Option.not_isSome_iff_eq_none.mp (mt rangeCommand_isSome_iff.mp hr)
    exact ⟨i, decodeWord_eq_ok_iff_table.mpr ⟨hrsv, .inr ⟨hnone, Bool.eq_false_iff.mpr (mt hbsel hr), hi⟩⟩⟩

theorem exists_decodeWord_eq_error_iff : (∃ e, decodeWord w = .error e) ↔ legalWord w = false := by
  rw [← Bool.not_eq_true, ← exists_decodeWord_eq_ok_iff]
  cases decodeWord w <;> simp

end

/-! ### The commands as a list -/

/-- The commands of R93, a range command once for each buffer. -/
def commands : List Instr :=
  plainCommands.map Prod.snd ++
    [.encRange .rx, .encRange .tx, .decRange .rx, .decRange .tx,
     .ckWrite .rx, .ckWrite .tx, .ckVerify .rx, .ckVerify .tx]

theorem mem_commands (i : Instr) : i ∈ commands := by
  cases i
  case encRange b | decRange b | ckWrite b | ckVerify b => cases b <;> decide
  all_goals decide

theorem nodup_commands : commands.Nodup := by decide

end Sys2Proof

namespace Sys2Proof.Proofs
open Sys2Proof.Machine

/-- Settles O1: decoding by words is `decodeWord_eq_ok_iff`, by bytes `decodeBytes_bytesOfWord_append`. -/
theorem decodeInvertsEncode : Obligations.DecodeInvertsEncode := fun i _ =>
  ⟨fun _ => decodeWord_eq_ok_iff, fun rest => decodeBytes_bytesOfWord_append rest (decodeWord_encodeWord i), rfl⟩

/-- Settles O2: the refused words are the words that are not legal, and the ENGINE's turn on one is its completion with
ILLEGAL_COMMAND (`engineTurn_illegal`). -/
theorem illegalWordsComplete : Obligations.IllegalWordsComplete := by
  refine ⟨fun w => ?refused, fun s e hBusy he => ⟨fun hNone => ?last, fun rest hEngine => ?engine⟩, rfl⟩
  case refused =>
    rw [exists_decodeWord_eq_error_iff, ← Bool.not_eq_true, legalWord_iff, not_and_or, not_and_or, Classical.not_imp]
    rfl
  case last => exact (step_of_agenda_nil hNone).trans (engineTurn_illegal hBusy he)
  case engine => exact (step_of_agenda_engine hEngine).trans (engineTurn_illegal hBusy he)

/-- Settles O3: the words of `commands`, which are different because `encodeWord` is injective. -/
theorem thirtyOneLegalWords : Obligations.ThirtyOneLegalWords := by
  refine ⟨commands.map encodeWord, rfl, nodup_commands.map encodeWord_injective, fun w => ?_⟩
  simp [decodeWord_eq_ok_iff, mem_commands, eq_comm (a := w)]

/-- Settles O4: each legal example is the word of its command; the decoder refuses each illegal one by
its item of R94. -/
theorem encodingExamples : Obligations.EncodingExamples :=
  ⟨decodeWord_encodeWord .ksInit, decodeWord_encodeWord (.decRange .rx), decodeWord_encodeWord (.ckVerify .tx),
    rfl, rfl, rfl⟩

end Sys2Proof.Proofs

/-! PROOF. The cipher engine as a function of words (40_cipher.md R110 to R112): the round function over the bytes of
its argument, the sixteen rounds as a recurrence, and that DEC and ENC undo each other. Both are `transform` with its
round keys in one of two orders, each the reverse of the other. -/

namespace Sys2Proof.Machine

/-! ### The round function -/

/-- The table indices of F: the bytes of a word, most-significant first (R110). -/
theorem toFin_extractLsb'_of_bytes {x : Word} {a b c d : Fin 256}
    (h : x.toNat = a.val * 2 ^ 24 + b.val * 2 ^ 16 + c.val * 2 ^ 8 + d.val) :
    (x.extractLsb' 24 8).toFin = a ∧ (x.extractLsb' 16 8).toFin = b ∧ (x.extractLsb' 8 8).toFin = c ∧
      (x.extractLsb' 0 8).toFin = d := by
  simp only [Fin.ext_iff, BitVec.val_toFin, BitVec.extractLsb'_toNat, Nat.shiftRight_eq_div_pow, h]
  omega

/-! ### ENC and DEC as one transform -/

/-- Whitening with the key `first`, the rounds with the keys `ks`, the key `last`, and the final swap. -/
def CipherState.transform (c : CipherState) (ks : List (Fin 18 × Fin 18)) (first last : Fin 18) (lr : Block) : Block :=
  let x := ks.foldl c.roundPair (lr.1 ^^^ c.p.get first, lr.2)
  (x.2 ^^^ c.p.get last, x.1)

section
variable (c : CipherState)

theorem CipherState.enc_eq_transform (lr : Block) : c.enc lr = c.transform encRounds 0 17 lr := rfl

theorem CipherState.dec_eq_transform (lr : Block) : c.dec lr = c.transform decRounds 17 0 lr := rfl

/-! ### The rounds as a recurrence -/

/-- A fold that follows a sequence ends at the sequence's value for the list's length. -/
theorem foldl_eq_of_steps {α β : Type} (f : β → α → β) (ks : List α) (x : Nat → β)
    (h : ∀ (k : Nat) (hk : k < ks.length), x (k + 1) = f (x k) ks[k]) : ks.foldl f (x 0) = x ks.length := by
  induction ks generalizing x with
  | nil => rfl
  | cons a ks ih =>
    have hhead : x 1 = f (x 0) a := h 0 (Nat.succ_pos _)
    have htail := ih (fun k => x (k + 1)) fun k hk => h (k + 1) (Nat.succ_lt_succ hk)
    rw [List.foldl_cons, ← hhead]
    exact htail

theorem CipherState.transform_of_rounds (ks : List (Fin 18 × Fin 18)) {first : Fin 18} (last : Fin 18) {x y : Word}
    {l r : Nat → Word} (hl : l 0 = x ^^^ c.p.get first) (hr : r 0 = y)
    (h : ∀ (k : Nat) (hk : k < ks.length), r (k + 1) = r k ^^^ c.f (l k) ^^^ c.p.get ks[k].1 ∧
      l (k + 1) = l k ^^^ c.f (r (k + 1)) ^^^ c.p.get ks[k].2) :
    c.transform ks first last (x, y) = (r ks.length ^^^ c.p.get last, l ks.length) := by
  have hfold : ks.foldl c.roundPair (l 0, r 0) = (l ks.length, r ks.length) :=
    foldl_eq_of_steps c.roundPair ks (fun k => (l k, r k)) fun k hk => by
      obtain ⟨hright, hleft⟩ := h k hk
      simp only [CipherState.roundPair, ← hright, ← hleft]
  rw [CipherState.transform, ← hl, ← hr, hfold]

/-- R111: the round keys of ENC ascend. -/
theorem encRounds_getElem : ∀ (k : Nat) (h : k < 8),
    encRounds[k]'h = (⟨2 * k + 1, by omega⟩, ⟨2 * k + 2, by omega⟩) := by decide

/-- R112: the round keys of DEC descend. -/
theorem decRounds_getElem : ∀ (k : Nat) (h : k < 8),
    decRounds[k]'h = (⟨16 - 2 * k, by omega⟩, ⟨15 - 2 * k, by omega⟩) := by decide

/-! ### Running the rounds backwards -/

/-- A pair of rounds on the swapped result, with the two keys in the other order, gives the swapped block back. -/
theorem CipherState.roundPair_swap_roundPair (lr : Block) (k : Fin 18 × Fin 18) :
    c.roundPair (c.roundPair lr k).swap k.swap = lr.swap := by
  simp [CipherState.roundPair, Prod.swap, BitVec.xor_assoc]

theorem CipherState.foldl_roundPair_reverse (ks : List (Fin 18 × Fin 18)) (lr : Block) :
    (ks.map Prod.swap).reverse.foldl c.roundPair (ks.foldl c.roundPair lr).swap = lr.swap := by
  induction ks generalizing lr with
  | nil => rfl
  | cons k ks ih =>
    simp only [List.map_cons, List.reverse_cons, List.foldl_append, List.foldl_cons, List.foldl_nil, ih,
      roundPair_swap_roundPair]

theorem CipherState.transform_transform {ks ks' : List (Fin 18 × Fin 18)} (h : ks' = (ks.map Prod.swap).reverse)
    (first last : Fin 18) (lr : Block) : c.transform ks' last first (c.transform ks first last lr) = lr := by
  have hback := c.foldl_roundPair_reverse ks (lr.1 ^^^ c.p.get first, lr.2)
  simp only [Prod.swap] at hback
  simp [CipherState.transform, h, hback]

theorem CipherState.dec_enc (lr : Block) : c.dec (c.enc lr) = lr :=
  c.transform_transform (by decide) 0 17 lr

theorem CipherState.enc_dec (lr : Block) : c.enc (c.dec lr) = lr :=
  c.transform_transform (by decide) 17 0 lr

end

end Sys2Proof.Machine

namespace Sys2Proof.Proofs
open Sys2Proof.Machine

/-- Settles O30: F takes the bytes of the word as table indices (`toFin_extractLsb'_of_bytes`). -/
theorem roundFunction : Obligations.RoundFunction := by
  refine ⟨fun k x a b c d h => ?bytes, rfl⟩
  obtain ⟨ha, hb, hc, hd⟩ := toFin_extractLsb'_of_bytes h
  simp only [CipherState.f, CipherState.sbox, ha, hb, hc, hd, BitVec.toNat_add, BitVec.toNat_xor]

/-- Settles O31: both directions are `transform_of_rounds` with their own list of round keys. -/
theorem encAndDecRounds : Obligations.EncAndDecRounds := by
  refine fun c x y l r hr => ⟨fun hl h => ?enc, fun hl h => ?dec⟩
  case enc => exact c.transform_of_rounds encRounds 17 hl hr fun k hk => encRounds_getElem k hk ▸ h k hk
  case dec => exact c.transform_of_rounds decRounds 0 hl hr fun k hk => decRounds_getElem k hk ▸ h k hk

/-- Settles O32: DEC and ENC are `transform` with reversed round keys (`CipherState.transform_transform`). -/
theorem encAndDecAreInverse : Obligations.EncAndDecAreInverse := fun c lr => ⟨c.dec_enc lr, c.enc_dec lr⟩

end Sys2Proof.Proofs

/-! PROOF. The commands ENC_BLK, DEC_BLK, ENC_RANGE and DEC_RANGE (40_cipher.md R113 to R119), each for any transform of
blocks: what the key guard and the range checks answer, what becomes of the block of the registers and of each block of
a range, and that a second transform which undoes the first restores all of it. -/

namespace Sys2Proof.Machine

/-! ### Blocks of the buffer memory -/

/-- The block at a window offset: two little-endian words, the left one first (R119). -/
def Memory.block (m : Memory) (a : Nat) : Block := (m.le32 a, m.le32 (a + 4))

/-- Put a block at a window offset (R119). -/
def Memory.putBlock (m : Memory) (a : Nat) (v : Block) : Memory := (m.putLe32 a v.1).putLe32 (a + 4) v.2

section
variable {m m' : Memory} {a x : Nat}

theorem Memory.mapBlocks_succ (f : Block → Block) (m : Memory) (a n : Nat) :
    m.mapBlocks f a (n + 1) = (m.putBlock a (f (m.block a))).mapBlocks f (a + 8) n := rfl

theorem Memory.block_putBlock_same (m : Memory) (a : Nat) (v : Block) : (m.putBlock a v).block a = v := by
  rw [Memory.block, Memory.putBlock, le32_putLe32_other _ _ (.inl (Nat.le_refl _)), le32_putLe32_same,
    le32_putLe32_same]

theorem Memory.read_putBlock_outside (m : Memory) (v : Block) (h : x < a ∨ a + 8 ≤ x) :
    (m.putBlock a v).read x = m.read x := by
  rw [Memory.putBlock, read_putLe32_outside _ _ (by omega), read_putLe32_outside _ _ (by omega)]

theorem Memory.block_congr (h : ∀ k < 8, m.read (a + k) = m'.read (a + k)) : m.block a = m'.block a := by
  have hlo : m.le32 a = m'.le32 a := congrArg _ (readLE_congr fun k hk => h k (by omega))
  have hhi : m.le32 (a + 4) = m'.le32 (a + 4) := congrArg _ (readLE_congr fun k hk => by
    rw [Nat.add_assoc]; exact h (4 + k) (by omega))
  rw [Memory.block, Memory.block, hlo, hhi]

theorem Memory.read_eq_of_le32_eq (h : m.le32 a = m'.le32 a) {k : Nat} (hk : k < 4) :
    m.read (a + k) = m'.read (a + k) :=
  calc m.read (a + k) = (m.le32 a).extractLsb' (8 * k) 8 := (extractLsb'_readLE m a (Nat.le_refl 4) hk).symm
    _ = (m'.le32 a).extractLsb' (8 * k) 8 := by rw [h]
    _ = m'.read (a + k) := extractLsb'_readLE m' a (Nat.le_refl 4) hk

/-- A block determines its eight bytes. -/
theorem Memory.read_eq_of_block_eq (h : m.block a = m'.block a) (hlo : a ≤ x) (hhi : x < a + 8) :
    m.read x = m'.read x := by
  obtain ⟨hleft, hright⟩ := Prod.mk.inj h
  by_cases hx : x < a + 4
  · obtain ⟨k, rfl⟩ := Nat.exists_eq_add_of_le hlo
    exact read_eq_of_le32_eq hleft (by omega)
  · obtain ⟨k, rfl⟩ := Nat.exists_eq_add_of_le (Nat.le_of_not_lt hx)
    exact read_eq_of_le32_eq hright (by omega)

/-- Each block of the run becomes its transform: the run writes a block only after reading it (R116). -/
theorem Memory.block_mapBlocks (f : Block → Block) (m : Memory) (a : Nat) {n k : Nat} (hk : k < n) :
    (m.mapBlocks f a n).block (a + 8 * k) = f (m.block (a + 8 * k)) := by
  induction n generalizing m a k with
  | zero => omega
  | succ n ih =>
    rw [mapBlocks_succ]
    cases k with
    | zero =>
      rw [block_congr fun k hk => read_mapBlocks_outside _ (by omega)]
      exact block_putBlock_same m a _
    | succ k =>
      have hkeep : (m.putBlock a (f (m.block a))).block (a + 8 + 8 * k) = m.block (a + 8 + 8 * k) :=
        block_congr fun j hj => read_putBlock_outside m _ (by omega)
      rw [show a + 8 * (k + 1) = a + 8 + 8 * k by omega, ih _ _ (by omega), hkeep]

theorem Memory.sameBytes_of_blocks {a n : Nat} (hout : m.sameOutside m' a (8 * n))
    (hin : ∀ k < n, m'.block (a + 8 * k) = m.block (a + 8 * k)) : m.sameBytes m' := by
  intro x
  by_cases hx : x < a ∨ a + 8 * n ≤ x
  · exact hout x hx
  · exact read_eq_of_block_eq (hin ((x - a) / 8) (by omega)) (by omega) (by omega)

theorem Memory.sameBytes_mapBlocks_mapBlocks {f g : Block → Block} (hfg : ∀ v, g (f v) = v) (m : Memory) (a n : Nat) :
    m.sameBytes ((m.mapBlocks f a n).mapBlocks g a n) := by
  refine sameBytes_of_blocks (a := a) (n := n) (fun x hx => ?outside) fun k hk => ?block
  case outside => rw [read_mapBlocks_outside _ hx, read_mapBlocks_outside _ hx]
  case block => rw [block_mapBlocks g _ a hk, block_mapBlocks f m a hk, hfg]

end

/-! ### ENC_BLK and DEC_BLK -/

section
variable {s : State}

theorem cryptBlock_of_keyValid (f : Block → Block) (hk : s.keyValid = true) :
    cryptBlock f s = { s with dataLo := (f (s.dataLo, s.dataHi)).1, dataHi := (f (s.dataLo, s.dataHi)).2,
                              err := .ok, busy := false, done := true } := by
  obtain ⟨-, heq⟩ | ⟨hno, -⟩ := cryptBlock_cases f s
  · exact heq
  · simp [hk] at hno

theorem cryptBlock_of_keyValid_false (f : Block → Block) (hk : s.keyValid = false) :
    cryptBlock f s = { s with err := .keyNotValid, busy := false, done := true } := by
  obtain ⟨hyes, -⟩ | ⟨-, heq⟩ := cryptBlock_cases f s
  · simp [hk] at hyes
  · exact heq

/-! ### ENC_RANGE and DEC_RANGE -/

theorem cryptRangeRuns_iff : cryptRangeRuns s = true ↔ s.keyValid = true ∧ s.rlen.toNat ≠ 0 ∧ s.rlen.toNat % 8 = 0 ∧
    s.roff.toNat + s.rlen.toNat ≤ 65536 := by
  simp only [cryptRangeRuns, rangeFits_eq, Bool.and_eq_true, decide_eq_true_eq, and_assoc]
  rfl

/-- A legal range: every block is transformed in place, and no register but STATUS is written. -/
theorem cryptRange_of_runs (f : Block → Block) (b : BufSel) (h : cryptRangeRuns s = true) :
    cryptRange f b s = { s with mem := s.mem.mapBlocks f (rangeAddr b s) (s.rlen.toNat / 8),
                                err := .ok, busy := false, done := true } := by
  obtain ⟨hk, hne, hmod, hfit⟩ := cryptRangeRuns_iff.mp h
  obtain ⟨hno, -⟩ | ⟨-, hno, -⟩ | ⟨-, -, -, hno, -⟩ | ⟨-, -, -, -, heq⟩ := cryptRange_cases f b s
  · simp [hk] at hno
  · omega
  · omega
  · exact heq

/-- R118: the checks after the key guard, in their order. -/
theorem cryptRange_errors (f : Block → Block) (b : BufSel) (s : State) :
    (s.keyValid = false → cryptRange f b s = s.complete .keyNotValid) ∧
    (s.keyValid = true → s.rlen.toNat = 0 ∨ s.rlen.toNat % 8 ≠ 0 →
      cryptRange f b s = s.complete .invalidBlockAlignment) ∧
    (s.keyValid = true → s.rlen.toNat ≠ 0 → s.rlen.toNat % 8 = 0 → 65536 < s.roff.toNat + s.rlen.toNat →
      cryptRange f b s = s.complete .rangeError) := by
  obtain ⟨hk, heq⟩ | ⟨hk, hlen, heq⟩ | ⟨hk, hne, hmod, hfit, heq⟩ | ⟨hk, hne, hmod, hfit, -⟩ := cryptRange_cases f b s
  · simp [hk, heq]
  · simp [hk, heq]; omega
  · simp [hk, hne, hmod, heq]
  · simp [hk, hne, hmod]; omega

theorem exec_eq_cryptRange {i : Instr} {b : BufSel} (s : State) (h : i = .encRange b ∨ i = .decRange b) :
    ∃ f, exec i s = .next (cryptRange f b s) := by
  obtain rfl | rfl := h
  · exact ⟨_, exec_encRange b s⟩
  · exact ⟨_, exec_decRange b s⟩

end

end Sys2Proof.Machine

namespace Sys2Proof.Proofs
open Sys2Proof.Machine

/-- Settles O36: each block of the range becomes its transform (`Memory.block_mapBlocks`), for the transforms of both
commands. -/
theorem rangeCiphersTransformBlocks : Obligations.RangeCiphersTransformBlocks := by
  intro b s hk hne hmod hfit
  have h : cryptRangeRuns s = true := cryptRangeRuns_iff.mpr ⟨hk, hne, hmod, hfit⟩
  have hblocks (f : Block → Block) (k : Nat) (hk : k < s.rlen.toNat / 8) :=
    Memory.block_mapBlocks f s.mem (rangeAddr b s) hk
  have houtside (f : Block → Block) :
      s.mem.sameOutside (s.mem.mapBlocks f (rangeAddr b s) (s.rlen.toNat / 8)) (rangeAddr b s) s.rlen.toNat :=
    fun x hx => Memory.read_mapBlocks_outside s.mem (by omega)
  exact ⟨⟨_, (exec_encRange b s).trans (congrArg _ (cryptRange_of_runs _ b h)), hblocks _, houtside _, rfl⟩,
    ⟨_, (exec_decRange b s).trans (congrArg _ (cryptRange_of_runs _ b h)), hblocks _, houtside _, rfl⟩⟩

/-- Settles O37: the second command finds the same legal range, and DEC undoes ENC (`CipherState.dec_enc`) on each of
its blocks. -/
theorem decRangeUndoesEncRange : Obligations.DecRangeUndoesEncRange := by
  intro b s hk hne hmod hfit
  have h : cryptRangeRuns s = true := cryptRangeRuns_iff.mpr ⟨hk, hne, hmod, hfit⟩
  refine ⟨_, _, (exec_encRange b s).trans (congrArg _ (cryptRange_of_runs _ b h)),
    (exec_decRange b _).trans (congrArg _ (cryptRange_of_runs _ b ?stillRuns)), ?bytes, rfl⟩
  case stillRuns => exact h
  case bytes => exact Memory.sameBytes_mapBlocks_mapBlocks s.cipher.dec_enc s.mem _ _

/-- Settles O35: each command undoes the other, as the transforms do. -/
theorem blockCommandsRoundTrip : Obligations.BlockCommandsRoundTrip := by
  refine fun s hk => ⟨⟨_, _, (exec_encBlk s).trans (congrArg _ (cryptBlock_of_keyValid _ hk)),
      (exec_decBlk _).trans (congrArg _ (cryptBlock_of_keyValid _ hk)), ?encDec⟩,
    ⟨_, _, (exec_decBlk s).trans (congrArg _ (cryptBlock_of_keyValid _ hk)),
      (exec_encBlk _).trans (congrArg _ (cryptBlock_of_keyValid _ hk)), ?decEnc⟩⟩
  case encDec => simp [CipherState.dec_enc]
  case decEnc => simp [CipherState.enc_dec]

/-- Settles O33: the two outcomes of `cryptBlock`, for ENC. -/
theorem encBlkResult : Obligations.EncBlkResult :=
  ⟨fun s hk => (exec_encBlk s).trans (congrArg _ (cryptBlock_of_keyValid s.cipher.enc hk)),
    fun s hk => (exec_encBlk s).trans (congrArg _ (cryptBlock_of_keyValid_false s.cipher.enc hk)), rfl⟩

/-- Settles O34: the two outcomes of `cryptBlock`, for DEC. -/
theorem decBlkResult : Obligations.DecBlkResult :=
  ⟨fun s hk => (exec_decBlk s).trans (congrArg _ (cryptBlock_of_keyValid s.cipher.dec hk)),
    fun s hk => (exec_decBlk s).trans (congrArg _ (cryptBlock_of_keyValid_false s.cipher.dec hk)), rfl⟩

/-- Settles O38: the errors do not depend on the transform (`cryptRange_errors`). -/
theorem rangeCipherErrors : Obligations.RangeCipherErrors := by
  intro b s i hi
  obtain ⟨f, heq⟩ := exec_eq_cryptRange s hi
  rw [heq]
  obtain ⟨hkey, halign, hrange⟩ := cryptRange_errors f b s
  exact ⟨fun hk => congrArg _ (hkey hk), fun hk hlen => congrArg _ (halign hk hlen),
    fun hk hne hmod hfit => congrArg _ (hrange hk hne hmod hfit)⟩

end Sys2Proof.Proofs

/-! PROOF. The key schedule builder (41_key_schedule.md): the cyclic word streams, the seeding of the round keys, the
slots in their fill order and what one fill writes, and then the commands KS_INIT and KS_INIT_SALT as functions of the
key and salt registers. -/

namespace Sys2Proof.Machine

/-! ### Key and salt words -/

/-- A byte shifted in from the right is appended below the bits already there (R141). -/
theorem shiftLeft_or_eq_append {n : Nat} (x : BitVec n) (b : Byte) :
    (x.setWidth 32 <<< 8) ||| b.setWidth 32 = (x ++ b).setWidth 32 := by
  ext i hi
  by_cases hlow : i < 8
  · simp [BitVec.getLsbD_append, hlow]
  · have hbyte : b.getLsbD i = false := b.getLsbD_of_ge i (by omega)
    simp [BitVec.getLsbD_append, hlow, hbyte]

section
variable {m : List Byte} {j : Nat}

theorem drawBytes_snd (hj : j < m.length) (n : Nat) (w : Word) : (drawBytes m n j w).2 = (j + n) % m.length := by
  induction n generalizing j w with
  | zero => exact (Nat.mod_eq_of_lt hj).symm
  | succ n ih =>
    rw [drawBytes, ih (Nat.mod_lt _ (by omega)), Nat.mod_add_mod, Nat.add_assoc, Nat.add_comm 1]

theorem cyclicWord_snd (hj : j < m.length) : (cyclicWord m j).2 = (j + 4) % m.length :=
  drawBytes_snd hj 4 0

theorem cyclicWord_fst (m : List Byte) (j : Nat) : (cyclicWord m j).1 =
    (m.getD j 0 ++ m.getD ((j + 1) % m.length) 0 ++ m.getD ((j + 2) % m.length) 0 ++
      m.getD ((j + 3) % m.length) 0 : BitVec 32) := by
  have hzero : (0 : Word) = (0#0).setWidth 32 := rfl
  simp only [cyclicWord, drawBytes, Nat.mod_add_mod, Nat.add_assoc, hzero, shiftLeft_or_eq_append,
    BitVec.zero_width_append, BitVec.setWidth_eq]
  rfl

theorem cyclicWord_replicate_zero (n j : Nat) : (cyclicWord (List.replicate n 0) j).1 = 0 := by
  simp only [cyclicWord_fst, List.getD_eq_getElem?_getD, List.getElem?_getD_replicate_default_eq]
  rfl

/-! ### Seeding the round keys -/

theorem get_set_eq_ite {α : Type} {n : Nat} (v : Vector α n) (i j : Fin n) (a : α) :
    (v.set i a).get j = if j = i then a else v.get j := by
  simp only [Vector.get_eq_getElem, Vector.getElem_set, Fin.ext_iff, eq_comm]

theorem get_seedKeys_of_notMem (key : List Byte) {l : List (Fin 18)} {i : Fin 18} (hi : i ∉ l) (j : Nat)
    (p : Vector Word 18) : (seedKeys key l j p).get i = p.get i := by
  induction l generalizing j p with
  | nil => rfl
  | cons a l ih =>
    obtain ⟨hne, hl⟩ := not_or.mp (mt List.mem_cons.mpr hi)
    rw [seedKeys, ih hl, get_set_eq_ite, if_neg hne]

/-- Round keys seeded in a list's order take the words of the key in that order (R143). -/
theorem get_seedKeys {key : List Byte} {l : List (Fin 18)} (hl : l.Nodup) {j : Nat} (hj : j < key.length)
    (p : Vector Word 18) {i : Fin 18} (hi : i ∈ l) :
    (seedKeys key l j p).get i = p.get i ^^^ (cyclicWord key ((j + 4 * l.idxOf i) % key.length)).1 := by
  induction l generalizing j p with
  | nil => cases hi
  | cons a l ih =>
    obtain ⟨hnew, hl⟩ := List.nodup_cons.mp hl
    rw [seedKeys]
    by_cases ha : i = a
    · subst ha
      rw [get_seedKeys_of_notMem key hnew, List.idxOf_cons_self, Nat.mul_zero, Nat.add_zero, Nat.mod_eq_of_lt hj,
        get_set_eq_ite, if_pos rfl]
    · have hcursor : (cyclicWord key j).2 < key.length := by
        rw [cyclicWord_snd hj]; exact Nat.mod_lt _ (by omega)
      rw [ih hl hcursor _ (List.mem_of_ne_of_mem ha hi), cyclicWord_snd hj, Nat.mod_add_mod,
        List.idxOf_cons_ne _ (Ne.symm ha), show j + 4 * (l.idxOf i + 1) = j + 4 + 4 * l.idxOf i by omega,
        get_set_eq_ite, if_neg ha]

theorem get_seedKeys_finRange {key : List Byte} (hkey : key ≠ []) (p : Vector Word 18) (i : Fin 18) :
    (seedKeys key (List.finRange 18) 0 p).get i = p.get i ^^^ (cyclicWord key (4 * i.val % key.length)).1 := by
  rw [get_seedKeys (List.nodup_finRange 18) (List.length_pos_iff.mpr hkey) p (List.mem_finRange i),
    List.idxOf_finRange, Nat.zero_add]

end

/-! ### One fill -/

section
variable {salt : List Byte} {x : Running}

theorem fillSlot_nil (x : Running) (slot : Slot) :
    fillSlot [] x slot = ⟨x.cipher.putSlot (x.cipher.enc x.block) slot, x.cipher.enc x.block, x.js⟩ := rfl

theorem mixSalt_of_ne_nil (hsalt : salt ≠ []) (x : Running) : mixSalt salt x =
    { x with block := (x.block.1 ^^^ (cyclicWord salt x.js).1,
                       x.block.2 ^^^ (cyclicWord salt (cyclicWord salt x.js).2).1),
             js := (cyclicWord salt (cyclicWord salt x.js).2).2 } := by
  rw [mixSalt, if_neg (by simpa using hsalt)]

theorem fillSlot_js (hjs : x.js < salt.length) (slot : Slot) :
    (fillSlot salt x slot).js = (x.js + 8) % salt.length := by
  have hsalt : salt ≠ [] := List.ne_nil_of_length_pos (by omega)
  have hcursor : (x.js + 4) % salt.length < salt.length := Nat.mod_lt _ (by omega)
  rw [fillSlot, mixSalt_of_ne_nil hsalt, cyclicWord_snd hjs, cyclicWord_snd hcursor, Nat.mod_add_mod]

theorem foldl_fillSlot_js (hjs : x.js < salt.length) (slots : List Slot) :
    (slots.foldl (fillSlot salt) x).js = (x.js + 8 * slots.length) % salt.length := by
  induction slots generalizing x with
  | nil => exact (Nat.mod_eq_of_lt hjs).symm
  | cons slot slots ih =>
    have hstep := fillSlot_js hjs slot
    rw [List.foldl_cons, ih (hstep ▸ Nat.mod_lt _ (by omega)), hstep, Nat.mod_add_mod, List.length_cons,
      Nat.mul_succ, Nat.add_assoc, Nat.add_comm 8]

/-! ### Slots -/

theorem get_set_pair {n k : Nat} (v : Vector Word n) (hk : 2 * k + 1 < n) (a b : Word) (j : Fin n) :
    ((v.set (2 * k) a).set (2 * k + 1) b).get j =
      if j.val = 2 * k then a else if j.val = 2 * k + 1 then b else v.get j := by
  have hodd := get_set_eq_ite (v.set (2 * k) a) ⟨2 * k + 1, hk⟩ j b
  have heven := get_set_eq_ite v ⟨2 * k, by omega⟩ j a
  simp only [Fin.ext_iff] at hodd heven
  rw [hodd, heven]
  by_cases hj : j.val = 2 * k
  · simp [hj]
  · simp [hj]

/-- Where all lists have the same length, an index splits into the list's number and a place in it. -/
theorem getElem?_flatMap_of_length {α β : Type} (f : α → List β) {n i : Nat} (hf : ∀ a, (f a).length = n)
    (hi : i < n) (l : List α) (k : Nat) : (l.flatMap f)[n * k + i]? = l[k]?.bind fun a => (f a)[i]? := by
  induction l generalizing k with
  | nil => rfl
  | cons a l ih =>
    rw [List.flatMap_cons]
    cases k with
    | zero => rw [List.getElem?_append_left (by rw [hf]; omega)]; simp
    | succ k =>
      rw [List.getElem?_append_right (by rw [hf, Nat.mul_succ]; omega), hf, List.getElem?_cons_succ, ← ih,
        show n * (k + 1) + i - n = n * k + i by rw [Nat.mul_succ]; omega]

theorem length_fillOrder : fillOrder.length = 521 := by
  simp [fillOrder]

theorem fillOrder_p (i : Fin 9) : fillOrder[i.val]? = some (.p i) := by
  rw [fillOrder, List.getElem?_append_left (by simp)]
  simp

theorem fillOrder_s (t : Fin 4) (i : Fin 128) : fillOrder[9 + 128 * t.val + i.val]? = some (.s t i) := by
  rw [fillOrder, List.getElem?_append_right (by simp; omega), List.length_map, List.length_finRange,
    show 9 + 128 * t.val + i.val - 9 = 128 * t.val + i.val by omega,
    getElem?_flatMap_of_length _ (by simp) i.isLt]
  simp

end

/-! ### A salt of zeros -/

/-- The running state with the salt cursor forgotten: a schedule without salt never looks at it. -/
def Running.dropCursor (x : Running) : Running := { x with js := 0 }

theorem mixSalt_replicate_zero_dropCursor (n : Nat) (x : Running) :
    (mixSalt (List.replicate n 0) x).dropCursor = x.dropCursor := by
  by_cases hsalt : List.replicate n (0 : Byte) = []
  · rw [hsalt]; rfl
  · have hxor (w : Word) : w ^^^ 0 = w := BitVec.xor_zero
    rw [mixSalt_of_ne_nil hsalt, cyclicWord_replicate_zero, cyclicWord_replicate_zero, hxor, hxor]
    rfl

theorem fillSlot_replicate_zero_dropCursor (n : Nat) (x : Running) (slot : Slot) :
    (fillSlot (List.replicate n 0) x slot).dropCursor = fillSlot [] x.dropCursor slot := by
  rw [← mixSalt_replicate_zero_dropCursor n x]
  rfl

theorem foldl_fillSlot_replicate_zero (n : Nat) (c : CipherState) (b : Block) (slots : List Slot) :
    (slots.foldl (fillSlot (List.replicate n 0)) ⟨c, b, 0⟩).cipher = (slots.foldl (fillSlot []) ⟨c, b, 0⟩).cipher :=
  (congrArg Running.cipher (List.foldl_hom (l := slots) (init := ⟨c, b, 0⟩) Running.dropCursor fun x slot =>
    (fillSlot_replicate_zero_dropCursor n x slot).symm)).symm

/-! ### The schedule as a fold -/

/-- The equation of `keySchedule` by `delta`: Lean writes none itself without evaluating the constants of R160. -/
theorem keySchedule_eq_foldl (key salt : List Byte) : keySchedule key salt =
    (fillOrder.foldl (fillSlot salt)
      ⟨⟨seedKeys key (List.finRange 18) 0 initCipher.p, initCipher.s⟩, (0, 0), 0⟩).cipher := by
  delta keySchedule
  rfl

theorem keySchedule_replicate_zero (key : List Byte) (n : Nat) :
    keySchedule key (List.replicate n 0) = keySchedule key [] := by
  rw [keySchedule_eq_foldl, keySchedule_eq_foldl, foldl_fillSlot_replicate_zero]

/-! ### KS_INIT and KS_INIT_SALT -/

section
variable {s : State}

theorem saltOperand_of_saltLen_zero (h : s.saltLen = 0) : saltOperand s = [] := by
  simp [saltOperand, h]

theorem ksInit_of_legal (hlo : 1 ≤ s.keyLen.toNat) (hhi : s.keyLen.toNat ≤ 56) :
    ksInit s = installKeySchedule (keySchedule (keyOperand s) []) s := by
  obtain ⟨hkey, -⟩ | ⟨-, -, heq⟩ := ksInit_cases s
  · omega
  · exact heq

theorem ksInit_of_illegal (h : s.keyLen.toNat < 1 ∨ 56 < s.keyLen.toNat) :
    ksInit s = failKeySchedule .invalidKeySize s := by
  obtain ⟨-, heq⟩ | ⟨hlo, hhi, -⟩ := ksInit_cases s
  · exact heq
  · omega

theorem ksInitSalt_of_legal (hlo : 1 ≤ s.keyLen.toNat) (hhi : s.keyLen.toNat ≤ 56) (hsalt : s.saltLen.toNat ≤ 56) :
    ksInitSalt s = installKeySchedule (keySchedule (keyOperand s) (saltOperand s)) s := by
  obtain ⟨hkey, -⟩ | ⟨-, -, hlong, -⟩ | ⟨-, -, -, heq⟩ := ksInitSalt_cases s
  · omega
  · omega
  · exact heq

theorem ksInitSalt_of_illegalKey (h : s.keyLen.toNat < 1 ∨ 56 < s.keyLen.toNat) :
    ksInitSalt s = failKeySchedule .invalidKeySize s := by
  obtain ⟨-, heq⟩ | ⟨hlo, hhi, -⟩ | ⟨hlo, hhi, -⟩ := ksInitSalt_cases s
  · exact heq
  · omega
  · omega

theorem ksInitSalt_of_illegalSalt (hlo : 1 ≤ s.keyLen.toNat) (hhi : s.keyLen.toNat ≤ 56)
    (hsalt : 56 < s.saltLen.toNat) : ksInitSalt s = failKeySchedule .invalidSaltSize s := by
  obtain ⟨hkey, -⟩ | ⟨-, -, -, heq⟩ | ⟨-, -, hshort, -⟩ := ksInitSalt_cases s
  · omega
  · exact heq
  · omega

/-- With no salt to read, both commands check the same and build the same schedule (R146). -/
theorem ksInitSalt_eq_ksInit (h : s.saltLen = 0) : ksInitSalt s = ksInit s := by
  obtain ⟨hkey, heq⟩ | ⟨hlo, hhi, heq⟩ := ksInit_cases s
  · rw [heq, ksInitSalt_of_illegalKey hkey]
  · rw [heq, ksInitSalt_of_legal hlo hhi (by simp [h]), saltOperand_of_saltLen_zero h]

end

/-- A key-schedule command installs one and the same CipherState in all states that agree on key and salt, or fails
(R152, R155). -/
theorem exec_keySchedule_of_agree {i : Instr} {s1 s2 : State} (hi : i = .ksInit ∨ i = .ksInitSalt)
    (hkey : s1.key = s2.key) (hkeyLen : s1.keyLen = s2.keyLen) (hsalt : s1.salt = s2.salt)
    (hsaltLen : s1.saltLen = s2.saltLen) :
    (∃ e, e ≠ .ok ∧ exec i s1 = .next (failKeySchedule e s1)) ∨
    ∃ c, exec i s1 = .next (installKeySchedule c s1) ∧ exec i s2 = .next (installKeySchedule c s2) := by
  have hkeyOp : keyOperand s1 = keyOperand s2 := by rw [keyOperand, hkey, hkeyLen, keyOperand]
  have hsaltOp : saltOperand s1 = saltOperand s2 := by rw [saltOperand, hsalt, hsaltLen, saltOperand]
  obtain rfl | rfl := hi
  · rw [exec_ksInit, exec_ksInit]
    obtain ⟨-, heq⟩ | ⟨hlo, hhi, heq⟩ := ksInit_cases s1
    · exact .inl ⟨_, by decide, congrArg _ heq⟩
    · rw [hkeyLen] at hlo hhi
      exact .inr ⟨_, congrArg _ heq, by rw [ksInit_of_legal hlo hhi, hkeyOp]⟩
  · rw [exec_ksInitSalt, exec_ksInitSalt]
    obtain ⟨-, heq⟩ | ⟨-, -, -, heq⟩ | ⟨hlo, hhi, hshort, heq⟩ := ksInitSalt_cases s1
    · exact .inl ⟨_, by decide, congrArg _ heq⟩
    · exact .inl ⟨_, by decide, congrArg _ heq⟩
    · rw [hkeyLen] at hlo hhi
      rw [hsaltLen] at hshort
      exact .inr ⟨_, congrArg _ heq, by rw [ksInitSalt_of_legal hlo hhi hshort, hkeyOp, hsaltOp]⟩

end Sys2Proof.Machine

namespace Sys2Proof.Proofs
open Sys2Proof.Machine

/-- Settles O43: the schedule is the fold of `fillSlot` over `fillOrder` from the seeded constants, and each part of the
statement is what one of the functions in it does. -/
theorem fillOrderCoversTables : Obligations.FillOrderCoversTables := by
  refine ⟨fun key salt hkey => ⟨_, get_seedKeys_finRange hkey _, keySchedule_eq_foldl key salt⟩, fillSlot_nil,
    fun salt x slot a b y hsalt ha hb hy => ?salted, fun salt c n hsalt hn => ?cursor, length_fillOrder, fillOrder_p,
    fillOrder_s, fun c b i => ⟨rfl, ?roundKeys⟩, fun c b t i => ⟨rfl, ?table⟩⟩
  case salted => subst ha hb hy; rw [fillSlot, mixSalt_of_ne_nil hsalt]
  case cursor =>
    rw [foldl_fillSlot_js (List.length_pos_iff.mpr hsalt), List.length_take, length_fillOrder, Nat.min_eq_left hn,
      Nat.zero_add]
  case roundKeys => exact get_set_pair c.p (by omega) b.1 b.2
  case table =>
    intro t' j
    rw [CipherState.putSlot, get_set_eq_ite]
    by_cases ht : t' = t
    · simp only [ht, true_and]
      exact get_set_pair (c.s.get t) (by omega) b.1 b.2 j
    · simp only [ht, false_and, if_false]

/-- Settles O44: the four bytes and the cursor of `cyclicWord`, and the seeding by induction on the round keys
(`get_seedKeys`). -/
theorem wordStreamIsCyclic : Obligations.WordStreamIsCyclic := fun m j hm hj =>
  ⟨cyclicWord_fst m j, cyclicWord_snd hj, get_seedKeys_finRange hm⟩

/-- Settles O45: where the first command succeeds, both install the same CipherState. -/
theorem scheduleIgnoresOldState : Obligations.ScheduleIgnoresOldState := by
  intro i s1 s2 t1 t2 hi hkey hkeyLen hsalt hsaltLen h1 h2 hok
  obtain ⟨e, he, heq⟩ | ⟨c, heq1, heq2⟩ := exec_keySchedule_of_agree hi hkey hkeyLen hsalt hsaltLen
  · cases heq.symm.trans h1
    exact absurd hok he
  · cases heq1.symm.trans h1
    cases heq2.symm.trans h2
    exact ⟨rfl, rfl⟩

/-- Settles O46: zero salt words change no block, so the two schedules differ in the salt cursor only. -/
theorem zeroSaltIsNoSalt : Obligations.ZeroSaltIsNoSalt := keySchedule_replicate_zero

/-- Settles O39: the two outcomes of `ksInit`, field by field. -/
theorem ksInitResult : Obligations.KsInitResult :=
  ⟨fun s hlo hhi => (exec_ksInit s).trans (congrArg _ (ksInit_of_legal hlo hhi)),
    fun s h => (exec_ksInit s).trans (congrArg _ (ksInit_of_illegal h)), rfl⟩

/-- Settles O40: the three outcomes of `ksInitSalt`, field by field. -/
theorem ksInitSaltResult : Obligations.KsInitSaltResult :=
  ⟨fun s hlo hhi hsalt => (exec_ksInitSalt s).trans (congrArg _ (ksInitSalt_of_legal hlo hhi hsalt)),
    fun s h => (exec_ksInitSalt s).trans (congrArg _ (ksInitSalt_of_illegalKey h)),
    fun s hlo hhi hsalt => (exec_ksInitSalt s).trans (congrArg _ (ksInitSalt_of_illegalSalt hlo hhi hsalt)), rfl⟩

/-- Settles O41: with SALTLEN = 0 the salt read is empty (`ksInitSalt_eq_ksInit`). -/
theorem emptySaltIsNoSalt : Obligations.EmptySaltIsNoSalt := fun s h => by
  rw [exec_ksInitSalt, exec_ksInit, ksInitSalt_eq_ksInit h]

/-- Settles O42: installing a schedule and failing both zeroize. -/
theorem keySchedulesZeroize : Obligations.KeySchedulesZeroize := by
  intro i s hi
  have hzero (j : Fin 56) : (Vector.replicate 56 (0 : Byte)).get j = 0 := by simp [Vector.get_eq_getElem]
  obtain ⟨e, -, heq⟩ | ⟨c, heq, -⟩ := exec_keySchedule_of_agree (s1 := s) (s2 := s) hi rfl rfl rfl rfl
  · exact ⟨_, heq, fun j => ⟨hzero j, hzero j⟩, rfl, rfl⟩
  · exact ⟨_, heq, fun j => ⟨hzero j, hzero j⟩, rfl, rfl⟩

end Sys2Proof.Proofs

/-! PROOF. The packet framer (42_framer.md): the value operand and the value a read returns as bytes of {DATA_HI,
DATA_LO}, the six TX_PUT and the six RX_GET commands as one append and one take each (R171, R186), and what every
framer command answers. -/

namespace Sys2Proof.Machine

/-! ### Positions and bytes -/

/-- A register of `w` bits holds every position below `2 ^ w`. -/
theorem toNat_ofNat_of_lt {w n : Nat} (h : n < 2 ^ w) : (BitVec.ofNat w n).toNat = n :=
  (BitVec.toNat_ofNat n w).trans (Nat.mod_eq_of_lt h)

/-- le16 of 00_scope.md R10. -/
theorem Memory.readLE_two (m : Memory) (a : Nat) :
    m.readLE a 2 = (m.read a).toNat + 256 * (m.read (a + 1)).toNat := by
  simp [Memory.readLE]

section
variable {s : State} {n k : Nat}

theorem byteOf_eq (v : BitVec 64) (k : Nat) : byteOf v k = BitVec.ofNat 8 (v.toNat / 256 ^ k) := by
  apply BitVec.eq_of_toNat_eq
  rw [byteOf, BitVec.toNat_ofNat, BitVec.extractLsb'_toNat, Nat.shiftRight_eq_div_pow, Nat.pow_mul]

theorem valueOperand_eq (s : State) (n : Nat) : valueOperand s n = s.data64.toNat % 256 ^ n :=
  congrArg (s.data64.toNat % ·) (Nat.pow_mul 2 8 n)

/-- Cutting {DATA_HI, DATA_LO} to `n` bytes keeps each of them. -/
theorem ofNat_valueOperand_div (s : State) (hk : k < n) :
    BitVec.ofNat 8 (valueOperand s n / 256 ^ k) = byteOf s.data64 k := by
  obtain ⟨d, rfl⟩ := Nat.exists_eq_add_of_lt hk
  rw [valueOperand_eq, byteOf_eq, Nat.add_assoc, Nat.pow_add, Nat.mod_mul_right_div_self]
  apply BitVec.eq_of_toNat_eq
  rw [BitVec.toNat_ofNat, BitVec.toNat_ofNat]
  exact Nat.mod_mod_of_dvd _ (Dvd.intro_left (256 ^ d) (Nat.pow_succ ..).symm)

/-- The low and the high word of a value of at most 64 bits, put together again (R191 to R196). -/
theorem toNat_append_halves {v : Nat} (h : v < 2 ^ 64) :
    (BitVec.ofNat 32 (v / 2 ^ 32) ++ BitVec.ofNat 32 v : BitVec 64).toNat = v := by
  rw [BitVec.toNat_append, ← Nat.shiftLeft_add_eq_or_of_lt (BitVec.isLt _), Nat.shiftLeft_eq, BitVec.toNat_ofNat,
    BitVec.toNat_ofNat]
  omega

/-! ### Writer -/

/-- The TX_PUT commands with the bytes each appends (R173 to R178). -/
def putCommands : List (Instr × Nat) :=
  [(.txPutU8, 1), (.txPutU16, 2), (.txPutU32, 4), (.txPutU64, 8), (.txPutF32, 4), (.txPutF64, 8)]

theorem exec_of_mem_putCommands {i : Instr} (h : (i, n) ∈ putCommands) (s : State) :
    exec i s = .next (appendValue n (valueOperand s n) s) := by
  have hall : ∀ c ∈ putCommands, exec c.1 s = .next (appendValue c.2 (valueOperand s c.2) s) := by
    simp [putCommands, exec_txPutU8, exec_txPutU16, exec_txPutU32, exec_txPutU64, exec_txPutF32, exec_txPutF64]
  exact hall (i, n) h

theorem appendValue_of_fits (v : Nat) (h : s.txLen.toNat + n ≤ 65536) :
    appendValue n v s = { s with mem := s.mem.writeLE (writerAddr s) n v, txLen := BitVec.ofNat 17 (s.txLen.toNat + n),
                                 err := .ok, busy := false, done := true } := by
  obtain ⟨-, heq⟩ | ⟨hover, -⟩ := appendValue_cases n v s
  · exact heq
  · omega

theorem appendValue_of_overflow (v : Nat) (h : 65536 < s.txLen.toNat + n) :
    appendValue n v s = { s with err := .txOverflow, busy := false, done := true } := by
  obtain ⟨hfit, -⟩ | ⟨-, heq⟩ := appendValue_cases n v s
  · omega
  · exact heq

/-! ### Reader -/

/-- The RX_GET commands with the bytes each takes (R191 to R196). -/
def getCommands : List (Instr × Nat) :=
  [(.rxGetU8, 1), (.rxGetU16, 2), (.rxGetU32, 4), (.rxGetU64, 8), (.rxGetF32, 4), (.rxGetF64, 8)]

theorem exec_of_mem_getCommands {i : Instr} (h : (i, n) ∈ getCommands) (s : State) :
    exec i s = .next (getValue n s) := by
  have hall : ∀ c ∈ getCommands, exec c.1 s = .next (getValue c.2 s) := by
    simp [getCommands, exec_rxGetU8, exec_rxGetU16, exec_rxGetU32, exec_rxGetU64, exec_rxGetF32, exec_rxGetF64]
  exact hall (i, n) h

theorem le_eight_of_mem_getCommands {i : Instr} (h : (i, n) ∈ getCommands) : n ≤ 8 := by
  have hall : ∀ c ∈ getCommands, c.2 ≤ 8 := by decide
  exact hall (i, n) h

/-- Each TX_PUT with its matching RX_GET and their bytes (R200). -/
def codecPairs : List (Instr × Instr × Nat) :=
  putCommands.zipWith (fun put take => (put.1, take.1, put.2)) getCommands

theorem mem_of_mem_codecPairs {put take : Instr} (h : (put, take, n) ∈ codecPairs) :
    (put, n) ∈ putCommands ∧ (take, n) ∈ getCommands := by
  have hall : ∀ c ∈ codecPairs, (c.1, c.2.2) ∈ putCommands ∧ (c.2.1, c.2.2) ∈ getCommands := by decide
  exact hall (put, take, n) h

theorem getValue_of_has (h : s.rxPos.toNat + n ≤ s.rxLen.toNat) :
    getValue n s = { s with rxPos := BitVec.ofNat 17 (s.rxPos.toNat + n), dataLo := BitVec.ofNat 32 (takenValue s n),
                            dataHi := BitVec.ofNat 32 (takenValue s n / 2 ^ 32),
                            err := .ok, busy := false, done := true } := by
  obtain ⟨-, heq⟩ | ⟨hshort, -⟩ := getValue_cases n s
  · exact heq
  · omega

theorem getValue_of_short (h : s.rxLen.toNat < s.rxPos.toNat + n) :
    getValue n s = { s with err := .shortRead, busy := false, done := true } := by
  obtain ⟨hhas, -⟩ | ⟨-, heq⟩ := getValue_cases n s
  · omega
  · exact heq

/-- A get leaves the value it took, zero-extended, in {DATA_HI, DATA_LO}: at most eight bytes fit. -/
theorem data64_getValue (hn : n ≤ 8) (h : s.rxPos.toNat + n ≤ s.rxLen.toNat) :
    (getValue n s).data64.toNat = takenValue s n := by
  rw [getValue_of_has h]
  exact toNat_append_halves ((s.mem.readLE_lt _ n).trans_le (Nat.pow_le_pow_right (by decide) hn))

theorem byteOf_getValue (hn : n ≤ 8) (h : s.rxPos.toNat + n ≤ s.rxLen.toNat) (hk : k < n) :
    byteOf (getValue n s).data64 k = s.mem.read (readerAddr s + k) := by
  rw [byteOf_eq, data64_getValue hn h]
  apply BitVec.eq_of_toNat_eq
  rw [BitVec.toNat_ofNat]
  exact s.mem.readLE_byte (readerAddr s) hk

theorem byteOf_getValue_above (hn : n ≤ 8) (h : s.rxPos.toNat + n ≤ s.rxLen.toNat) (hk : n ≤ k) :
    byteOf (getValue n s).data64 k = 0 := by
  have hlt : takenValue s n < 256 ^ k := (s.mem.readLE_lt _ n).trans_le (Nat.pow_le_pow_right (by decide) hk)
  rw [byteOf_eq, data64_getValue hn h, Nat.div_eq_of_lt hlt]
  rfl

end

end Sys2Proof.Machine

namespace Sys2Proof.Proofs
open Sys2Proof.Machine

/-- Settles O47: every TX_PUT is `appendValue` of its value operand, whose bytes are those of {DATA_HI, DATA_LO}
(`ofNat_valueOperand_div`). -/
theorem txPutAppends : Obligations.TxPutAppends := by
  intro i n hi s
  rw [exec_of_mem_putCommands hi s]
  refine ⟨fun hfit => ⟨_, congrArg _ (appendValue_of_fits _ hfit), toNat_ofNat_of_lt (by omega), fun k hk => ?byte,
    fun _ hx => Memory.read_writeLE_outside _ _ hx, rfl⟩, fun hover => congrArg _ (appendValue_of_overflow _ hover)⟩
  case byte => exact (Memory.read_writeLE_inside _ _ _ hk).trans (ofNat_valueOperand_div s hk)

/-- Settles O50: TX_SEAL writes the two bytes of TX_LEN, and a TX_LEN of at most 65535 is given by them. -/
theorem txSealWritesLength : Obligations.TxSealWritesLength := by
  intro s
  obtain ⟨hlo, hhi, heq⟩ | ⟨hbad, heq⟩ := txSeal_cases s
  · refine ⟨fun _ _ => ⟨_, (exec_txSeal s).trans (congrArg _ heq), ?length,
      fun _ hx => Memory.read_writeLE_outside _ _ hx, rfl⟩, fun hbad => by omega, rfl, rfl⟩
    case length =>
      calc _ = (s.mem.writeLE (bufAddr .tx 0) 2 s.txLen.toNat).readLE (bufAddr .tx 0) 2 := (Memory.readLE_two ..).symm
        _ = s.txLen.toNat % 256 ^ 2 := Memory.readLE_writeLE_same ..
        _ = s.txLen.toNat := Nat.mod_eq_of_lt (by omega)
  · exact ⟨fun hlo hhi => by omega, fun _ => (exec_txSeal s).trans (congrArg _ heq), rfl, rfl⟩

/-- Settles O51: every RX_GET is `getValue`, which leaves the bytes taken in {DATA_HI, DATA_LO}. -/
theorem rxGetConsumes : Obligations.RxGetConsumes := by
  intro i n hi s
  have hn := le_eight_of_mem_getCommands hi
  rw [exec_of_mem_getCommands hi s]
  refine ⟨fun hhas => ⟨_, rfl, ?position, fun k hk => byteOf_getValue hn hhas hk,
    fun k hk _ => byteOf_getValue_above hn hhas hk, ?frame⟩, fun hshort => congrArg _ (getValue_of_short hshort)⟩
  case position => rw [getValue_of_has hhas]; exact toNat_ofNat_of_lt (by omega)
  case frame => rw [getValue_of_has hhas]

/-- Settles O53: the outcomes of `rxFrame` and of `acceptFrame` are the branches of the statement, in their order. -/
theorem rxFrameAccepts : Obligations.RxFrameAccepts := by
  intro s p len hp hlen hrx
  have hframe : frameLength s = len := (Memory.readLE_two ..).trans hlen.symm
  refine ⟨rfl, _, exec_rxFrame s, ?_⟩
  obtain ⟨hshort, heq⟩ | ⟨hheader, heq⟩ := rxFrame_cases s
  · rw [heq, if_pos (by omega)]
    rfl
  rw [heq, hframe, ← hp, if_neg (by omega)]
  obtain ⟨hsmall, heq⟩ | ⟨hge, hshort, heq⟩ | ⟨hge, hthere, hbad, heq⟩ | ⟨hgt, hthere, hmod, heq⟩ :=
    acceptFrame_cases p len (s.setData (BitVec.ofNat 32 len) 0) <;> rw [heq]
  case inl =>
    rw [if_pos hsmall]
    exact ⟨toNat_ofNat_of_lt (by omega), rfl⟩
  case inr.inl =>
    rw [State.setData_rxLen] at hshort
    rw [if_neg (by omega), if_pos hshort]
    rfl
  case inr.inr.inl =>
    rw [State.setData_rxLen] at hthere
    rw [if_neg (by omega), if_neg (by omega), if_pos (by omega)]
    exact ⟨toNat_ofNat_of_lt (by omega), rfl⟩
  case inr.inr.inr =>
    rw [State.setData_rxLen] at hthere
    rw [if_neg (by omega), if_neg (by omega), if_neg (by omega)]
    exact ⟨toNat_ofNat_of_lt (by omega), toNat_ofNat_of_lt (by omega), toNat_ofNat_of_lt (by omega), rfl⟩

/-- Settles O54: the get reads back, little-endian, the bytes that the put wrote little-endian. -/
theorem codecRoundTrip : Obligations.CodecRoundTrip := by
  intro put take n hc s u hfit hhas
  obtain ⟨hput, htake⟩ := mem_of_mem_codecPairs hc
  refine ⟨_, (exec_of_mem_putCommands hput s).trans (congrArg _ (appendValue_of_fits _ hfit)), fun hcopy =>
    ⟨_, exec_of_mem_getCommands htake u, ?_⟩⟩
  calc (getValue n u).data64.toNat = u.mem.readLE (readerAddr u) n :=
        data64_getValue (le_eight_of_mem_getCommands htake) hhas
    _ = (s.mem.writeLE (writerAddr s) n (valueOperand s n)).readLE (writerAddr s) n := Memory.readLE_congr hcopy
    _ = valueOperand s n % 256 ^ n := Memory.readLE_writeLE_same ..
    _ = s.data64.toNat % 2 ^ (8 * n) := by rw [valueOperand_eq, Nat.mod_mod, Nat.pow_mul]

/-- Settles O48: the two outcomes of `txPutRaw`. -/
theorem txPutRawCommits : Obligations.TxPutRawCommits := by
  intro s
  obtain ⟨hfit, heq⟩ | ⟨hover, heq⟩ := txPutRaw_cases s
  · exact ⟨fun _ => ⟨_, (exec_txPutRaw s).trans (congrArg _ heq), toNat_ofNat_of_lt (by omega), rfl⟩,
      fun hover => by omega, rfl⟩
  · exact ⟨fun hfit => by omega, fun _ => (exec_txPutRaw s).trans (congrArg _ heq), rfl⟩

/-- Settles O49: both commands write one length and complete. -/
theorem clearAndStart : Obligations.ClearAndStart := fun s => ⟨exec_txClear s, exec_rxStart s, rfl, rfl⟩

/-- Settles O52: the two outcomes of `rxGetRaw`; RX_POS, of 17 bits, fits DATA_LO. -/
theorem rxGetRawConsumes : Obligations.RxGetRawConsumes := by
  intro s
  obtain ⟨hhas, heq⟩ | ⟨hshort, heq⟩ := rxGetRaw_cases s
  · exact ⟨fun _ => ⟨_, (exec_rxGetRaw s).trans (congrArg _ heq), toNat_ofNat_of_lt (by omega),
      toNat_ofNat_of_lt (by omega), rfl⟩, fun hshort => by omega, rfl⟩
  · exact ⟨fun hhas => by omega, fun _ => (exec_rxGetRaw s).trans (congrArg _ heq), rfl⟩

end Sys2Proof.Proofs

/-! PROOF. The XOR-fold checksum (43_checksum.md): what becomes of a fold of words when one or two of its words change,
and the commands CK_WRITE and CK_VERIFY. A range verifies exactly when the XOR of all its words, slot included, is 0, so
that R226's three items are facts about that XOR. -/

namespace Sys2Proof.Machine

/-- A flipped bit changes the value. -/
theorem xor_twoPow_ne {w j : Nat} (v : BitVec w) (hj : j < w) : v ^^^ BitVec.twoPow w j ≠ v := by
  intro h
  have hbit := congrArg (·.getLsbD j) h
  simp [hj] at hbit

/-! ### Folds of words -/

section
variable {m m' : Memory} {a n k k1 k2 : Nat}

theorem Memory.le32_congr (h : ∀ k < 4, m.read (a + k) = m'.read (a + k)) : m.le32 a = m'.le32 a :=
  congrArg _ (readLE_congr h)

/-- The fold takes its last word last. -/
theorem Memory.foldWords_succ (m : Memory) (a n : Nat) (x : Word) :
    m.foldWords a (n + 1) x = m.foldWords a n x ^^^ m.le32 (a + 4 * n) := by
  induction n generalizing a x with
  | zero => rfl
  | succ n ih =>
    calc m.foldWords a (n + 1 + 1) x = m.foldWords (a + 4) n (x ^^^ m.le32 a) ^^^ m.le32 (a + 4 + 4 * n) := ih ..
      _ = m.foldWords a (n + 1) x ^^^ m.le32 (a + 4 * (n + 1)) := by
        rw [show a + 4 * (n + 1) = a + 4 + 4 * n by omega]; rfl

theorem Memory.foldWords_eq_foldl (m : Memory) (a n : Nat) (x : Word) :
    m.foldWords a n x = ((List.range n).map fun k => m.le32 (a + 4 * k)).foldl (· ^^^ ·) x := by
  induction n with
  | zero => rfl
  | succ n ih => simp [foldWords_succ, ih, List.range_succ]

theorem Memory.foldWords_congr_words (x : Word) (h : ∀ i < n, m'.le32 (a + 4 * i) = m.le32 (a + 4 * i)) :
    m'.foldWords a n x = m.foldWords a n x := by
  rw [foldWords_eq_foldl, foldWords_eq_foldl, List.map_congr_left fun i hi => h i (List.mem_range.mp hi)]

/-- Where one word changes, the fold changes by what that word changes by. -/
theorem Memory.foldWords_change_word (x : Word) (hk : k < n)
    (hsame : ∀ i < n, i ≠ k → m'.le32 (a + 4 * i) = m.le32 (a + 4 * i)) :
    m'.foldWords a n x = m.foldWords a n x ^^^ (m.le32 (a + 4 * k) ^^^ m'.le32 (a + 4 * k)) := by
  induction n with
  | zero => omega
  | succ n ih =>
    rw [foldWords_succ, foldWords_succ]
    by_cases hlast : k = n
    · subst hlast
      rw [foldWords_congr_words x fun i hi => hsame i (by omega) (by omega), BitVec.xor_assoc,
        ← BitVec.xor_assoc (m.le32 _), BitVec.xor_self, BitVec.zero_xor]
    · rw [ih (by omega) fun i hi => hsame i (by omega), hsame n (by omega) (Ne.symm hlast), BitVec.xor_assoc,
        BitVec.xor_comm _ (m.le32 (a + 4 * n)), ← BitVec.xor_assoc]

/-- Two changed words change the fold one after the other: the memory `mid` has only the first one changed. -/
theorem Memory.foldWords_change_two_words (x : Word) (hk1 : k1 < n) (hk2 : k2 < n) (hne : k1 ≠ k2)
    (hsame : ∀ i < n, i ≠ k1 → i ≠ k2 → m'.le32 (a + 4 * i) = m.le32 (a + 4 * i)) :
    m'.foldWords a n x = m.foldWords a n x ^^^ (m.le32 (a + 4 * k1) ^^^ m'.le32 (a + 4 * k1)) ^^^
      (m.le32 (a + 4 * k2) ^^^ m'.le32 (a + 4 * k2)) := by
  obtain ⟨mid, hmid⟩ : ∃ mid, mid = m'.putLe32 (a + 4 * k2) (m.le32 (a + 4 * k2)) := ⟨_, rfl⟩
  have hback : mid.le32 (a + 4 * k2) = m.le32 (a + 4 * k2) := by rw [hmid, le32_putLe32_same]
  have hkeep (i : Nat) (hi : i ≠ k2) : mid.le32 (a + 4 * i) = m'.le32 (a + 4 * i) := by
    rw [hmid, le32_putLe32_other _ _ (by omega)]
  have hfirst : mid.foldWords a n x = m.foldWords a n x ^^^ (m.le32 (a + 4 * k1) ^^^ mid.le32 (a + 4 * k1)) := by
    refine foldWords_change_word x hk1 fun i hi hi1 => ?_
    by_cases hi2 : i = k2
    · rw [hi2, hback]
    · rw [hkeep i hi2, hsame i hi hi1 hi2]
  rw [foldWords_change_word x hk2 fun i _ hi2 => (hkeep i hi2).symm, hfirst, hback, hkeep k1 hne]

end

/-! ### The range and its slot -/

/-- The XOR of every word of the range, slot included. -/
def rangeXor (b : BufSel) (s : State) : Word := s.mem.foldWords (rangeAddr b s) (s.rlen.toNat / 4) 0

section
variable {s t : State} {b : BufSel} {m : Memory} {k k1 k2 : Nat}

theorem checksumRuns_iff : checksumRuns s = true ↔ s.rlen.toNat ≠ 0 ∧ s.rlen.toNat % 4 = 0 ∧
    s.roff.toNat + s.rlen.toNat ≤ 65536 := by
  simp only [checksumRuns, rangeFits_eq, Bool.and_eq_true, decide_eq_true_eq, and_assoc]
  rfl

/-- The slot is the word after those that are folded (R222). -/
theorem slotAddr_eq (b : BufSel) (h : checksumRuns s = true) :
    slotAddr b s = rangeAddr b s + 4 * (s.rlen.toNat / 4 - 1) := by
  obtain ⟨hne, hmod, -⟩ := checksumRuns_iff.mp h
  rw [slotAddr, rangeLen]
  omega

theorem rangeXor_eq (b : BufSel) (h : checksumRuns s = true) :
    rangeXor b s = foldRange b s ^^^ s.mem.le32 (slotAddr b s) := by
  obtain ⟨hne, hmod, -⟩ := checksumRuns_iff.mp h
  have hwords : s.rlen.toNat / 4 = s.rlen.toNat / 4 - 1 + 1 := by omega
  rw [rangeXor, hwords, Memory.foldWords_succ, slotAddr_eq b h]
  rfl

theorem rangeXor_eq_zero_iff (b : BufSel) (h : checksumRuns s = true) :
    rangeXor b s = 0 ↔ foldRange b s = s.mem.le32 (slotAddr b s) := by
  rw [rangeXor_eq b h]
  exact BitVec.xor_eq_zero_iff

theorem rangeXor_setMem_of_word (hk : k < s.rlen.toNat / 4) (hsame : s.mem.sameOutside m (rangeAddr b s + 4 * k) 4) :
    rangeXor b (s.setMem m) =
      rangeXor b s ^^^ (s.mem.le32 (rangeAddr b s + 4 * k) ^^^ m.le32 (rangeAddr b s + 4 * k)) :=
  Memory.foldWords_change_word (a := rangeAddr b s) 0 hk fun i _ hi => Memory.le32_congr fun y hy => hsame _ (by omega)

theorem rangeXor_setMem_of_two_words (hk1 : k1 < s.rlen.toNat / 4) (hk2 : k2 < s.rlen.toNat / 4) (hne : k1 ≠ k2)
    (hsame : ∀ y, y < rangeAddr b s + 4 * k1 ∨ rangeAddr b s + 4 * k1 + 4 ≤ y →
      y < rangeAddr b s + 4 * k2 ∨ rangeAddr b s + 4 * k2 + 4 ≤ y → m.read y = s.mem.read y) :
    rangeXor b (s.setMem m) =
      rangeXor b s ^^^ (s.mem.le32 (rangeAddr b s + 4 * k1) ^^^ m.le32 (rangeAddr b s + 4 * k1)) ^^^
        (s.mem.le32 (rangeAddr b s + 4 * k2) ^^^ m.le32 (rangeAddr b s + 4 * k2)) :=
  Memory.foldWords_change_two_words (a := rangeAddr b s) 0 hk1 hk2 hne fun i _ hi1 hi2 =>
    Memory.le32_congr fun y hy => hsame _ (by omega) (by omega)

/-- The fold does not read the slot, so that filling the slot keeps it. -/
theorem foldRange_putSlot (v : Word) (h : checksumRuns s = true) :
    foldRange b (s.setMem (s.mem.putLe32 (slotAddr b s) v)) = foldRange b s := by
  refine Memory.foldWords_congr_words (a := rangeAddr b s) (n := s.rlen.toNat / 4 - 1) 0 fun i hi =>
    Memory.le32_putLe32_other _ _ (.inl ?_)
  rw [slotAddr_eq b h]
  omega

/-! ### CK_WRITE and CK_VERIFY -/

theorem ckWrite_of_runs (b : BufSel) (h : checksumRuns s = true) :
    ckWrite b s = { s with mem := s.mem.putLe32 (slotAddr b s) (foldRange b s), cksum := foldRange b s,
                           err := .ok, busy := false, done := true } := by
  obtain ⟨hne, hmod, hfit⟩ := checksumRuns_iff.mp h
  obtain ⟨hbad, -⟩ | ⟨-, -, hout, -⟩ | ⟨-, -, -, heq⟩ := ckWrite_cases b s
  · omega
  · omega
  · exact heq

theorem ckVerify_of_runs (b : BufSel) (h : checksumRuns s = true) :
    ckVerify b s = { s with cksum := foldRange b s,
                            err := if foldRange b s = s.mem.le32 (slotAddr b s) then .ok else .checksumMismatch,
                            busy := false, done := true } := by
  obtain ⟨hne, hmod, hfit⟩ := checksumRuns_iff.mp h
  obtain ⟨hbad, -⟩ | ⟨-, -, hout, -⟩ | ⟨-, -, -, hdiff, heq⟩ | ⟨-, -, -, hsame, heq⟩ := ckVerify_cases b s
  · omega
  · omega
  · rw [if_neg hdiff]; exact heq
  · rw [if_pos hsame]; exact heq

/-- R221: the checks of CK_WRITE, in their order. -/
theorem ckWrite_errors (b : BufSel) (s : State) :
    (s.rlen.toNat = 0 ∨ s.rlen.toNat % 4 ≠ 0 → ckWrite b s = s.complete .invalidChecksumLength) ∧
    (s.rlen.toNat ≠ 0 → s.rlen.toNat % 4 = 0 → 65536 < s.roff.toNat + s.rlen.toNat →
      ckWrite b s = s.complete .rangeError) := by
  obtain ⟨hbad, heq⟩ | ⟨hne, hmod, -, heq⟩ | ⟨hne, hmod, hfit, -⟩ := ckWrite_cases b s
  · exact ⟨fun _ => heq, by omega⟩
  · exact ⟨by omega, fun _ _ _ => heq⟩
  · exact ⟨by omega, by omega⟩

/-- R221: the checks of CK_VERIFY, the same ones. -/
theorem ckVerify_errors (b : BufSel) (s : State) :
    (s.rlen.toNat = 0 ∨ s.rlen.toNat % 4 ≠ 0 → ckVerify b s = s.complete .invalidChecksumLength) ∧
    (s.rlen.toNat ≠ 0 → s.rlen.toNat % 4 = 0 → 65536 < s.roff.toNat + s.rlen.toNat →
      ckVerify b s = s.complete .rangeError) := by
  obtain ⟨hbad, heq⟩ | ⟨hne, hmod, -, heq⟩ | ⟨hne, hmod, hfit, -⟩ | ⟨hne, hmod, hfit, -⟩ := ckVerify_cases b s
  · exact ⟨fun _ => heq, by omega⟩
  · exact ⟨by omega, fun _ _ _ => heq⟩
  · exact ⟨by omega, by omega⟩
  · exact ⟨by omega, by omega⟩

theorem ckVerify_err (b : BufSel) (h : checksumRuns s = true) :
    (ckVerify b s).err = if rangeXor b s = 0 then .ok else .checksumMismatch := by
  simp only [ckVerify_of_runs b h, rangeXor_eq_zero_iff b h]

theorem rangeXor_of_verified (h : checksumRuns s = true) (hexec : exec (.ckVerify b) s = .next t) (hok : t.err = .ok) :
    rangeXor b s = 0 := by
  cases (exec_ckVerify b s).symm.trans hexec
  rw [ckVerify_err b h] at hok
  by_contra hne
  rw [if_neg hne] at hok
  exact absurd hok (by decide)

end

end Sys2Proof.Machine

namespace Sys2Proof.Proofs
open Sys2Proof.Machine

/-- Settles O55: `Memory.foldWords_eq_foldl` at the range's words but the last. -/
theorem foldIsXorOfWords : Obligations.FoldIsXorOfWords :=
  fun b s => Memory.foldWords_eq_foldl s.mem (rangeAddr b s) (s.rlen.toNat / 4 - 1) 0

/-- Settles O56: CK_WRITE writes the four bytes of the slot, or raises R221's errors in their order. -/
theorem ckWriteResult : Obligations.CkWriteResult := by
  intro b s
  obtain ⟨hlen, hrange⟩ := ckWrite_errors b s
  refine ⟨fun hne hmod hfit => ?runs, fun hbad => (exec_ckWrite b s).trans (congrArg _ (hlen hbad)),
    fun hne hmod hout => (exec_ckWrite b s).trans (congrArg _ (hrange hne hmod hout))⟩
  have h : checksumRuns s = true := checksumRuns_iff.mpr ⟨hne, hmod, hfit⟩
  exact ⟨_, (exec_ckWrite b s).trans (congrArg _ (ckWrite_of_runs b h)), Memory.le32_putLe32_same ..,
    fun _ hx => Memory.read_putLe32_outside _ _ hx, rfl⟩

/-- Settles O58: filling the slot with the fold keeps the fold (`foldRange_putSlot`), and CK_VERIFY finds it there. -/
theorem verifyAfterWriteSucceeds : Obligations.VerifyAfterWriteSucceeds := by
  intro b s hne hmod hfit
  have h : checksumRuns s = true := checksumRuns_iff.mpr ⟨hne, hmod, hfit⟩
  have hfold := foldRange_putSlot (b := b) (foldRange b s) h
  refine ⟨_, _, (exec_ckWrite b s).trans (congrArg _ (ckWrite_of_runs b h)),
    (exec_ckVerify b _).trans (congrArg _ (ckVerify_of_runs b ?stillRuns)), if_pos ?found, hfold⟩
  case stillRuns => exact h
  case found => exact hfold.trans (Memory.le32_putLe32_same ..).symm

/-- Settles O59: the flip changes one word of the range, and so the XOR of all of them is no longer 0. -/
theorem singleBitFlipDetected : Obligations.SingleBitFlipDetected := by
  intro b s t m x j hne hmod hfit hexec hok hlo hhi hj hflip hsame
  have h : checksumRuns s = true := checksumRuns_iff.mpr ⟨hne, hmod, hfit⟩
  obtain ⟨k, i, hk, hi, rfl⟩ : ∃ k i, k < s.rlen.toNat / 4 ∧ i < 4 ∧ x = rangeAddr b s + 4 * k + i :=
    ⟨(x - rangeAddr b s) / 4, (x - rangeAddr b s) % 4, by omega, by omega, by omega⟩
  have hword : s.mem.le32 (rangeAddr b s + 4 * k) ≠ m.le32 (rangeAddr b s + 4 * k) := fun hword =>
    xor_twoPow_ne _ hj (hflip.symm.trans (Memory.read_eq_of_le32_eq hword hi).symm)
  have hnonzero : rangeXor b (s.setMem m) ≠ 0 := by
    rw [rangeXor_setMem_of_word hk fun y hy => hsame y (by omega), rangeXor_of_verified h hexec hok]
    simpa using hword
  exact ⟨_, exec_ckVerify b _, (ckVerify_err (s := s.setMem m) b h).trans (if_neg hnonzero)⟩

/-- Settles O60: the two flips change the XOR of the range by the same word, and so leave it 0. -/
theorem twoFlipsCancel : Obligations.TwoFlipsCancel := by
  intro b s t m k1 k2 j hne hmod hfit hexec hok hlt hk2 _ hflip1 hflip2 hsame
  have h : checksumRuns s = true := checksumRuns_iff.mpr ⟨hne, hmod, hfit⟩
  have hzero : rangeXor b (s.setMem m) = 0 := by
    rw [rangeXor_setMem_of_two_words (by omega) (by omega) (by omega) hsame, rangeXor_of_verified h hexec hok, hflip1,
      hflip2]
    simp
  exact ⟨_, exec_ckVerify b _, (ckVerify_err (s := s.setMem m) b h).trans (if_pos hzero)⟩

/-- Settles O57: CK_VERIFY writes CKSUM and STATUS only, or raises R221's errors in their order. -/
theorem ckVerifyResult : Obligations.CkVerifyResult := by
  intro b s
  obtain ⟨hlen, hrange⟩ := ckVerify_errors b s
  refine ⟨fun hne hmod hfit => ?runs, fun hbad => (exec_ckVerify b s).trans (congrArg _ (hlen hbad)),
    fun hne hmod hout => (exec_ckVerify b s).trans (congrArg _ (hrange hne hmod hout))⟩
  have h : checksumRuns s = true := checksumRuns_iff.mpr ⟨hne, hmod, hfit⟩
  exact (exec_ckVerify b s).trans (congrArg _ (ckVerify_of_runs b h))

end Sys2Proof.Proofs

/-! PROOF. The control family (44_control.md): how a command ends (R242, R244, R245), as one predicate `CommandEnd` that
every command meets with the effects its rule lets an error have. From it: the ENGINE's turn always completes, no run
stops, and what an error changes. Then issue (R241) and NOP (R240). -/

namespace Sys2Proof.Machine

/-! ### What an error may change -/

/-- `ok()` over any state, or `raise(e)` (R11) over a state that `effects e` allows. -/
inductive CommandEnd (effects : ErrCode → State → Prop) : State → Prop where
  | ok (u : State) : CommandEnd effects (u.complete .ok)
  | raise (e : ErrCode) (u : State) (h : effects e u) : CommandEnd effects (u.complete e)

/-- An error has no effect. -/
def NoEffects (s : State) (_ : ErrCode) (u : State) : Prop := u = s

/-- KEY_VALID cleared, key and salt zeroed (R155). -/
def KeyScheduleEffects (s : State) (_ : ErrCode) (u : State) : Prop := u = s.invalidateKey.zeroize

/-- DATA_LO and DATA_HI after the header is read, RX_POS on INVALID_BLOCK_ALIGNMENT (R199). -/
structure RxFrameEffects (s : State) (e : ErrCode) (u : State) : Prop where
  frame : u = { s with dataLo := u.dataLo, dataHi := u.dataHi, rxPos := u.rxPos }
  noHeader : s.rxLen.toNat < s.rxPos.toNat + 2 → u.dataLo = s.dataLo ∧ u.dataHi = s.dataHi
  position : e ≠ .invalidBlockAlignment → u.rxPos = s.rxPos

/-- CKSUM on CHECKSUM_MISMATCH (R225). -/
structure CkVerifyEffects (s : State) (e : ErrCode) (u : State) : Prop where
  frame : u = { s with cksum := u.cksum }
  cksum : e ≠ .checksumMismatch → u.cksum = s.cksum

/-- R245: the effects an error of each command may have. -/
def errorEffects (s : State) : Instr → ErrCode → State → Prop
  | .ksInit | .ksInitSalt => KeyScheduleEffects s
  | .rxFrame => RxFrameEffects s
  | .ckVerify _ => CkVerifyEffects s
  | _ => NoEffects s

theorem errorEffects_plain (s : State) {i : Instr} (h1 : i ≠ .ksInit) (h2 : i ≠ .ksInitSalt) (h3 : i ≠ .rxFrame)
    (h4 : ∀ b, i ≠ .ckVerify b) : errorEffects s i = NoEffects s := by
  cases i
  case ksInit => exact absurd rfl h1
  case ksInitSalt => exact absurd rfl h2
  case rxFrame => exact absurd rfl h3
  case ckVerify b => exact absurd rfl (h4 b)
  all_goals rfl

section
variable {effects : ErrCode → State → Prop} {t : State}

theorem CommandEnd.busy_done (h : CommandEnd effects t) : t.busy = false ∧ t.done = true := by
  cases h <;> exact ⟨rfl, rfl⟩

/-- A state whose ERR is not OK ends a command that raised it. -/
theorem CommandEnd.exists_effects (h : CommandEnd effects t) (he : t.err ≠ .ok) :
    ∃ u, effects t.err u ∧ t = u.complete t.err := by
  cases h with
  | ok u => exact absurd rfl he
  | raise e u h => exact ⟨u, h, rfl⟩

end

/-! ### How each command ends -/

section
variable (s : State)

theorem commandEnd_raise (e : ErrCode) : CommandEnd (NoEffects s) (s.complete e) := .raise e s rfl

theorem commandEnd_cryptBlock (f : Block → Block) : CommandEnd (NoEffects s) (cryptBlock f s) := by
  obtain ⟨-, h⟩ | ⟨-, h⟩ := cryptBlock_cases f s <;> rw [h]
  · exact .ok _
  · exact commandEnd_raise s _

theorem commandEnd_cryptRange (f : Block → Block) (b : BufSel) : CommandEnd (NoEffects s) (cryptRange f b s) := by
  obtain ⟨-, h⟩ | ⟨-, -, h⟩ | ⟨-, -, -, -, h⟩ | ⟨-, -, -, -, h⟩ := cryptRange_cases f b s <;> rw [h]
  case inr.inr.inr => exact .ok _
  all_goals exact commandEnd_raise s _

theorem commandEnd_ckWrite (b : BufSel) : CommandEnd (NoEffects s) (ckWrite b s) := by
  obtain ⟨-, h⟩ | ⟨-, -, -, h⟩ | ⟨-, -, -, h⟩ := ckWrite_cases b s <;> rw [h]
  case inr.inr => exact .ok _
  all_goals exact commandEnd_raise s _

theorem commandEnd_appendValue (n v : Nat) : CommandEnd (NoEffects s) (appendValue n v s) := by
  obtain ⟨-, h⟩ | ⟨-, h⟩ := appendValue_cases n v s <;> rw [h]
  · exact .ok _
  · exact commandEnd_raise s _

theorem commandEnd_txPutRaw : CommandEnd (NoEffects s) (txPutRaw s) := by
  obtain ⟨-, h⟩ | ⟨-, h⟩ := txPutRaw_cases s <;> rw [h]
  · exact .ok _
  · exact commandEnd_raise s _

theorem commandEnd_txSeal : CommandEnd (NoEffects s) (txSeal s) := by
  obtain ⟨-, -, h⟩ | ⟨-, h⟩ := txSeal_cases s <;> rw [h]
  · exact .ok _
  · exact commandEnd_raise s _

theorem commandEnd_getValue (n : Nat) : CommandEnd (NoEffects s) (getValue n s) := by
  obtain ⟨-, h⟩ | ⟨-, h⟩ := getValue_cases n s <;> rw [h]
  · exact .ok _
  · exact commandEnd_raise s _

theorem commandEnd_rxGetRaw : CommandEnd (NoEffects s) (rxGetRaw s) := by
  obtain ⟨-, h⟩ | ⟨-, h⟩ := rxGetRaw_cases s <;> rw [h]
  · exact .ok _
  · exact commandEnd_raise s _

/-- R221: an error of the range or of its length comes before the fold; only the mismatch comes with CKSUM. -/
theorem commandEnd_ckVerify (b : BufSel) : CommandEnd (CkVerifyEffects s) (ckVerify b s) := by
  obtain ⟨-, h⟩ | ⟨-, -, -, h⟩ | ⟨-, -, -, -, h⟩ | ⟨-, -, -, -, h⟩ := ckVerify_cases b s <;> rw [h]
  · exact .raise _ _ ⟨rfl, fun _ => rfl⟩
  · exact .raise _ _ ⟨rfl, fun _ => rfl⟩
  · exact .raise _ _ ⟨rfl, fun hne => absurd rfl hne⟩
  · exact .ok _

/-- R199: without a header nothing is read; with one DATA_LO and DATA_HI hold it whatever the outcome, and the two
errors of its length move RX_POS, a short frame does not. -/
theorem commandEnd_rxFrame : CommandEnd (RxFrameEffects s) (rxFrame s) := by
  obtain ⟨-, h⟩ | ⟨hheader, h⟩ := rxFrame_cases s <;> rw [h]
  · exact .raise _ _ ⟨rfl, fun _ => ⟨rfl, rfl⟩, fun _ => rfl⟩
  have hread (hno : s.rxLen.toNat < s.rxPos.toNat + 2) : False := by omega
  obtain ⟨-, h⟩ | ⟨-, -, h⟩ | ⟨-, -, -, h⟩ | ⟨-, -, -, h⟩ :=
    acceptFrame_cases s.rxPos.toNat (frameLength s) (s.setData (BitVec.ofNat 32 (frameLength s)) 0) <;> rw [h]
  · exact .raise _ _ ⟨rfl, fun hno => (hread hno).elim, fun hne => absurd rfl hne⟩
  · exact .raise _ _ ⟨rfl, fun hno => (hread hno).elim, fun _ => rfl⟩
  · exact .raise _ _ ⟨rfl, fun hno => (hread hno).elim, fun hne => absurd rfl hne⟩
  · exact .ok _

/-- KS_INIT and KS_INIT_SALT install a CipherState or fail. -/
theorem exec_keySchedule_cases {i : Instr} (hi : i = .ksInit ∨ i = .ksInitSalt) :
    (∃ e, exec i s = .next (failKeySchedule e s)) ∨ ∃ c, exec i s = .next (installKeySchedule c s) := by
  obtain ⟨e, -, h⟩ | ⟨c, h, -⟩ := exec_keySchedule_of_agree (s1 := s) (s2 := s) hi rfl rfl rfl rfl
  · exact .inl ⟨e, h⟩
  · exact .inr ⟨c, h⟩

theorem exec_keySchedule_ends {i : Instr} (hi : i = .ksInit ∨ i = .ksInitSalt) :
    ∃ t, exec i s = .next t ∧ CommandEnd (KeyScheduleEffects s) t := by
  obtain ⟨e, h⟩ | ⟨c, h⟩ := exec_keySchedule_cases s hi
  · exact ⟨_, h, .raise e _ rfl⟩
  · exact ⟨_, h, .ok _⟩

/-- R242, R245: every command answers a next state, the end of a command with the effects of its rule. -/
theorem exec_ends (i : Instr) : ∃ t, exec i s = .next t ∧ CommandEnd (errorEffects s i) t := by
  cases i
  case ksInit => exact exec_keySchedule_ends s (.inl rfl)
  case ksInitSalt => exact exec_keySchedule_ends s (.inr rfl)
  case nop => exact ⟨_, exec_nop s, .ok _⟩
  case txClear => exact ⟨_, exec_txClear s, .ok _⟩
  case rxStart => exact ⟨_, exec_rxStart s, .ok _⟩
  case encBlk | decBlk => exact ⟨_, rfl, commandEnd_cryptBlock s _⟩
  case encRange b | decRange b => exact ⟨_, rfl, commandEnd_cryptRange s _ b⟩
  case ckWrite b => exact ⟨_, exec_ckWrite b s, commandEnd_ckWrite s b⟩
  case ckVerify b => exact ⟨_, exec_ckVerify b s, commandEnd_ckVerify s b⟩
  case txPutU8 | txPutU16 | txPutU32 | txPutU64 | txPutF32 | txPutF64 =>
    exact ⟨_, rfl, commandEnd_appendValue s _ _⟩
  case txPutRaw => exact ⟨_, exec_txPutRaw s, commandEnd_txPutRaw s⟩
  case txSeal => exact ⟨_, exec_txSeal s, commandEnd_txSeal s⟩
  case rxGetU8 | rxGetU16 | rxGetU32 | rxGetU64 | rxGetF32 | rxGetF64 =>
    exact ⟨_, rfl, commandEnd_getValue s _⟩
  case rxGetRaw => exact ⟨_, exec_rxGetRaw s, commandEnd_rxGetRaw s⟩
  case rxFrame => exact ⟨_, exec_rxFrame s, commandEnd_rxFrame s⟩

end

section
variable {s t : State} {i : Instr}

theorem commandEnd_of_exec (h : exec i s = .next t) : CommandEnd (errorEffects s i) t := by
  obtain ⟨t', ht', hend⟩ := exec_ends s i
  cases ht'.symm.trans h
  exact hend

/-- R44: the fields of the HOST, and the model's own, that no command writes, a key schedule included. -/
theorem exec_keeps_hostFields (h : exec i s = .next t) :
    t.cmdw = s.cmdw ∧ t.ie = s.ie ∧ t.drop = s.drop ∧ t.busErr = s.busErr ∧ t.rxLen = s.rxLen ∧
      t.agenda = s.agenda ∧ t.rdata = s.rdata ∧ t.draws = s.draws := by
  by_cases hi : i = .ksInit ∨ i = .ksInitSalt
  · obtain ⟨e, h'⟩ | ⟨c, h'⟩ := exec_keySchedule_cases s hi <;> cases h'.symm.trans h <;>
      exact ⟨rfl, rfl, rfl, rfl, rfl, rfl, rfl, rfl⟩
  · obtain ⟨h1, h2⟩ := not_or.mp hi
    have hf := exec_frame h1 h2 h
    exact ⟨hf.cmdw, hf.ie, hf.drop, hf.busErr, hf.rxLen, hf.agenda, hf.rdata, hf.draws⟩

end

/-! ### Runs -/

theorem engineTurn_answers (s : State) : ∃ t, engineTurn s = .next t := by
  obtain ⟨-, h⟩ | ⟨i, -, -, h⟩ | ⟨e, -, -, h⟩ := engineTurn_cases s
  · exact ⟨_, h⟩
  · obtain ⟨t, ht, -⟩ := exec_ends s i
    exact ⟨t, h.trans ht⟩
  · exact ⟨_, h⟩

/-- R254: no turn ends in a fault or a refusal. -/
theorem step_answers (s : State) : ∃ t, step s = .next t := by
  obtain ⟨-, h⟩ | ⟨l, -, h⟩ | ⟨x, l, -, h⟩ | ⟨l, -, h⟩ := step_cases s
  · exact h ▸ engineTurn_answers s
  · exact h ▸ engineTurn_answers (s.setAgenda l)
  · exact ⟨_, h⟩
  · exact ⟨_, h⟩

theorem run_succ_of_step {s t : State} (n : Nat) (h : step s = .next t) : core.run (n + 1) s = core.run n t := by
  have hcore : core.step s = .next t := h
  simp only [Host.Core.run, hcore]

theorem runsFor_succ_of_step {n : Nat} {s t : State} (h : step s = .next t) (ht : runsFor n t) :
    runsFor (n + 1) s := by
  rw [runsFor, run_succ_of_step n h]
  exact ht

end Sys2Proof.Machine

namespace Sys2Proof.Proofs
open Sys2Proof.Machine

/-- Settles O7: a command ends with BUSY = 0 and DONE = 1 (`exec_ends`) and keeps the HOST's fields, an illegal word
changes STATUS only, and with BUSY = 0 the turn is void. -/
theorem everyCommandCompletes : Obligations.EveryCommandCompletes := by
  refine ⟨fun s hBusy => ?completes, fun s hIdle => engineTurn_idle hIdle⟩
  obtain ⟨hIdle, -⟩ | ⟨i, -, -, h⟩ | ⟨e, -, -, h⟩ := engineTurn_cases s
  · exact absurd (hIdle.symm.trans hBusy) Bool.false_ne_true
  · obtain ⟨t, ht, hend⟩ := exec_ends s i
    obtain ⟨hbusy, hdone⟩ := hend.busy_done
    exact ⟨t, h.trans ht, hbusy, hdone, exec_keeps_hostFields ht⟩
  · exact ⟨_, h, rfl, rfl, rfl, rfl, rfl, rfl, rfl, rfl, rfl, rfl⟩

/-- Settles O8, by induction on the number of steps: each of them answers a next state (`step_answers`). -/
theorem noRunStops : Obligations.NoRunStops := by
  intro n
  induction n with
  | zero => exact fun s => ⟨s, rfl⟩
  | succ n ih =>
    intro s
    obtain ⟨t, ht⟩ := step_answers s
    exact runsFor_succ_of_step ht (ih t)

/-- Settles O9: the command raised the error (`CommandEnd.exists_effects`) over a state that differs only by the effects
of its rule. -/
theorem errorsChangeOnlyNamedState : Obligations.ErrorsChangeOnlyNamedState := by
  intro i s t hexec herr
  obtain ⟨u, heff, ht⟩ := (commandEnd_of_exec hexec).exists_effects herr
  refine ⟨fun hi => ?keySchedule, fun hi => ?rxFrame, fun b hi => ?ckVerify, fun h1 h2 h3 h4 => ?plain⟩
  case keySchedule =>
    have hu : u = s.invalidateKey.zeroize := by obtain rfl | rfl := hi <;> exact heff
    rw [hu] at ht
    exact ht
  case rxFrame =>
    subst hi
    obtain ⟨hframe, hheader, hposition⟩ : RxFrameEffects s t.err u := heff
    have hlo : t.dataLo = u.dataLo := (congrArg State.dataLo ht).trans (State.complete_dataLo u t.err)
    have hhi : t.dataHi = u.dataHi := (congrArg State.dataHi ht).trans (State.complete_dataHi u t.err)
    have hpos : t.rxPos = u.rxPos := (congrArg State.rxPos ht).trans (State.complete_rxPos u t.err)
    rw [hlo, hhi, hpos]
    exact ⟨ht.trans (congrArg (·.complete t.err) hframe), hheader, hposition⟩
  case ckVerify =>
    subst hi
    obtain ⟨hframe, hcksum⟩ : CkVerifyEffects s t.err u := heff
    have hck : t.cksum = u.cksum := (congrArg State.cksum ht).trans (State.complete_cksum u t.err)
    rw [hck]
    exact ⟨ht.trans (congrArg (·.complete t.err) hframe), hcksum⟩
  case plain =>
    rw [errorEffects_plain s h1 h2 h3 h4] at heff
    have hu : u = s := heff
    rw [hu] at ht
    exact ht

/-- Settles O5: the ENGINE's turn runs the decoded command (`engineTurn_command`). -/
theorem stepRunsDecodedCommand : Obligations.StepRunsDecodedCommand := by
  refine fun s i _ hBusy hdec => ⟨fun hNone => ?last, fun rest hEngine => ?engine⟩
  case last => exact (step_of_agenda_nil hNone).trans (engineTurn_command hBusy hdec)
  case engine => exact (step_of_agenda_engine hEngine).trans (engineTurn_command hBusy hdec)

/-- Settles O17: with BUSY = 1 CMD is not one of the two registers a write reaches (`hostWrite_busy_cases`), with
BUSY = 0 it is written as any register is. -/
theorem issueLatchesCommand : Obligations.IssueLatchesCommand := by
  refine fun s w => ⟨fun hBusy => ?dropped, fun hIdle => hostAccess_write_register .cmd w hIdle⟩
  obtain ⟨-, -, h⟩ | ⟨hoff, -⟩ | ⟨hoff, -⟩ := hostWrite_busy_cases w hBusy (busError_offset .cmd)
  · exact h
  · exact absurd hoff (by decide)
  · exact absurd hoff (by decide)

/-- Settles O28: NOP is `ok()` over the state before. -/
theorem nopCompletes : Obligations.NopCompletes := ⟨exec_nop, rfl, rfl⟩

end Sys2Proof.Proofs

/-! PROOF. The result codes (60_exceptions.md R250): what STATUS.ERR can hold. -/

namespace Sys2Proof.Machine

/-- The codes 0x0C to 0xFF are reserved (R250): no result has one. -/
theorem ErrCode.code_lt (e : ErrCode) : e.code.toNat < 0x0C := by
  cases e <;> decide

end Sys2Proof.Machine

namespace Sys2Proof.Proofs
open Sys2Proof.Machine

/-- Settles O29: the table of R250 is `ErrCode.code` read row by row, and STATUS[15:8] is the code of a result
(`statusWord_err`), so it is below 0x0C (`ErrCode.code_lt`). -/
theorem resultCodes : Obligations.ResultCodes := by
  refine ⟨rfl, rfl, rfl, rfl, rfl, rfl, rfl, rfl, rfl, rfl, rfl, rfl, fun s => ?statusErr⟩
  case statusErr =>
    rw [statusWord_err]
    exact s.err.code_lt

end Sys2Proof.Proofs

/-! PROOF. The soft reset (70_reset_and_hazards.md R292, R293): a write to CTRL with bit 1 set performs it, BUSY or not,
and of the buffers it leaves every byte as it was that the running command, if there is one, does not write. -/

namespace Sys2Proof.Machine

/-! ### What the running command writes -/

section
variable {s : State} {i : Instr}

theorem runningCommand_idle (h : s.busy = false) : runningCommand s = none := by
  simp [runningCommand, h]

theorem runningCommand_of_decodeWord_ok (hBusy : s.busy = true) (h : decodeWord s.cmdw = .ok i) :
    runningCommand s = some i := by
  simp [runningCommand, hBusy, h, Except.toOption]

theorem runningCommand_of_decodeWord_error {e : DecodeError} (hBusy : s.busy = true)
    (h : decodeWord s.cmdw = .error e) : runningCommand s = none := by
  simp [runningCommand, hBusy, h, Except.toOption]

theorem bytesWritten_range {b : BufSel} (s : State) (h : i = .encRange b ∨ i = .decRange b) :
    bytesWritten i s = cryptBytes b s := by
  obtain rfl | rfl := h <;> rfl

theorem bytesWritten_of_mem_putCommands {n : Nat} (h : (i, n) ∈ putCommands) (s : State) :
    bytesWritten i s = putBytes n s := by
  have hall : ∀ c ∈ putCommands, bytesWritten c.1 s = putBytes c.2 s := by
    simp [putCommands, bytesWritten]
  exact hall (i, n) h

/-- A command that is none of R293's list writes no buffer byte. -/
theorem bytesWritten_of_notListed (s : State)
    (hrange : ∀ b, i ≠ .encRange b ∧ i ≠ .decRange b ∧ i ≠ .ckWrite b)
    (hwriter : i ∉ [Instr.txPutU8, .txPutU16, .txPutU32, .txPutU64, .txPutF32, .txPutF64, .txSeal]) :
    bytesWritten i s = (0, 0) := by
  cases i
  case encRange b => exact absurd rfl (hrange b).1
  case decRange b => exact absurd rfl (hrange b).2.1
  case ckWrite b => exact absurd rfl (hrange b).2.2
  case txPutU8 | txPutU16 | txPutU32 | txPutU64 | txPutF32 | txPutF64 | txSeal => simp at hwriter
  all_goals rfl

/-! ### The buffers after a soft reset -/

theorem abortedBytes_of_running (h : runningCommand s = some i) : abortedBytes s = bytesWritten i s := by
  rw [abortedBytes, h]

theorem sameBytes_abortedMem (h : abortedBytes s = (0, 0)) : s.mem.sameBytes (abortedMem s) := fun x => by
  rw [abortedMem, h, Memory.smear]

theorem sameBytes_abortedMem_of_none (h : runningCommand s = none) : s.mem.sameBytes (abortedMem s) :=
  sameBytes_abortedMem (by rw [abortedBytes, h])

/-- A command that would raise an error writes no byte (44_control.md R245), so `n` is a bound and not the count. -/
theorem sameOutside_abortedMem {a n k : Nat} (hrun : runningCommand s = some i) (hbytes : bytesWritten i s = (a, k))
    (hle : k ≤ n) : s.mem.sameOutside (abortedMem s) a n := fun x hx => by
  rw [abortedMem, abortedBytes_of_running hrun, hbytes]
  exact s.mem.read_smear_outside (by dsimp only; omega)

end

/-! ### The write to CTRL -/

/-- R292, R74: the write performs the soft reset in the BUSY window too. -/
theorem hostAccess_softReset (s : State) {d : Word} (hd : d.getLsbD 1 = true) :
    hostAccess (.write .w32 0x004 d) s = softReset d s :=
  calc hostAccess (.write .w32 0x004 d) s
    _ = windowWrite .w32 Reg.ctrl.offset.toNat d s := hostWrite_performed d (busError_offset .ctrl) (.inr rfl)
    _ = writeCtrl d s := windowWrite_register d (regionAt_offset .ctrl)
    _ = softReset d s := writeCtrl_softReset hd

theorem statusWord_softReset (d : Word) (s : State) : (softReset d s).statusWord = 0 :=
  statusWord_powerOn s.draws

end Sys2Proof.Machine

namespace Sys2Proof.Proofs
open Sys2Proof.Machine

/-- Settles O16: outside what the latched command writes (`bytesWritten`, clause by clause) the soft reset's draws
leave the buffers alone; an illegal word is no running command. -/
theorem softResetAbortsCommand : Obligations.SoftResetAbortsCommand := by
  refine ⟨fun s d i hBusy hok hd => ?legal, fun s d e hBusy herr hd => ?illegal⟩
  case illegal =>
    rw [hostAccess_softReset s hd]
    exact ⟨rfl, rfl, rfl, sameBytes_abortedMem_of_none (runningCommand_of_decodeWord_error hBusy herr)⟩
  case legal =>
    have hrun : runningCommand s = some i := runningCommand_of_decodeWord_ok hBusy hok
    rw [hostAccess_softReset s hd]
    refine ⟨rfl, rfl, rfl, fun b hi => ?range, fun b hi => ?checksum, fun n hi => ?put, fun hi => ?frameSeal,
      fun hrange hwriter => ?other⟩
    case range => exact sameOutside_abortedMem hrun (bytesWritten_range s hi) (by split <;> omega)
    case checksum => subst hi; exact sameOutside_abortedMem hrun rfl (by split <;> omega)
    case put => exact sameOutside_abortedMem hrun (bytesWritten_of_mem_putCommands hi s) (by split <;> omega)
    case frameSeal => subst hi; exact sameOutside_abortedMem hrun rfl (by split <;> omega)
    case other =>
      exact sameBytes_abortedMem ((abortedBytes_of_running hrun).trans (bytesWritten_of_notListed s hrange hwriter))

/-- Settles O15: the soft reset column of R46 field by field; with no command latched there is none to abort. -/
theorem softReset : Obligations.SoftReset := by
  intro s d hd
  rw [hostAccess_softReset s hd]
  exact ⟨rfl, rfl, rfl, rfl, rfl, statusWord_softReset d s, rfl, rfl, rfl, rfl, rfl, rfl, rfl, rfl, rfl, rfl, rfl,
    rfl, rfl, rfl, fun hIdle => sameBytes_abortedMem_of_none (runningCommand_idle hIdle)⟩

end Sys2Proof.Proofs
